-- ==== Sys2Proof/Word.lean ====
section
/-! DEFINITION. The words the part handles and their plainest arithmetic (00_scope.md, Units and ranges). -/

namespace Sys2Proof

/-- One byte of a pilot frame or of the configuration image. -/
abbrev Byte := BitVec 8

/-- A two-byte field, sent high byte first (section 7.8). -/
abbrev Word16 := BitVec 16

/-- A four-byte field, sent high byte first (section 7.8). -/
abbrev Word32 := BitVec 32

/-- A value clamped to a range takes the nearer end when it lies outside (00_scope.md, Arithmetic). -/
def clampInt (lo hi x : Int) : Int := max lo (min hi x)

/-- Voltages and currents saturate at -32767..32767 (00_scope.md, Units and ranges). -/
def saturate (x : Int) : Int := clampInt (-32767) 32767 x

end Sys2Proof
end

