-- ==== Sys2Proof/Syntax.lean ====
section
/-! DEFINITION. The commands of the block: one constructor of `Instr` for each row of spec/opcode_table.json, with the
operands the row's event carries, and the pilot frames they bring (section 7.8). -/

namespace Sys2Proof

/-- A measurement lane L0..L13 (section 1.1). -/
abbrev Lane := Fin 14

/-- A feeder F1..F4, numbered from 0. -/
abbrev Feeder := Fin 4

/-- A rectifier group G1, G2, numbered from 0. -/
abbrev Group := Fin 2

/-- A pilot port: A is 0, B is 1 (the object index of section 7.8). -/
abbrev Port := Fin 2

/-- An AC source: VAB 0, VBC 1, VCA 2 (section 2.1). -/
abbrev Source := Fin 3

/-- A status input S0..S11 (section 10.1). -/
abbrev Input := Fin 12

/-- How far a frame goes (section 7.5): SEGMENT stays on one segment, NETWORK may be forwarded. -/
inductive Scope
  | segment
  | network
  deriving DecidableEq, Repr

/-- The header of a pilot frame but for its kind and body length, which the body gives (section 7.8). -/
structure Header where
  scope : Scope
  loopMark : Bool
  hops : BitVec 3
  origin : Byte
  seq : Byte
  deriving DecidableEq, Repr

/-- One feeder record of a STATUS body, as carried: the values are not checked at reception (R135). -/
structure FeederInfo where
  feeder : Byte
  sectionId : Word16
  state : Byte
  live : Byte
  deriving DecidableEq, Repr

/-- The presented alarm of a STATUS body. -/
structure PresentedInfo where
  tag : Byte
  kind : Byte
  objectClass : Byte
  objectIndex : Byte
  priority : Byte
  deriving DecidableEq, Repr

/-- The last command result of a STATUS body. -/
structure ResultInfo where
  gateway : Byte
  command : Byte
  result : Byte
  deriving DecidableEq, Repr

/-- A STATUS body (section 7.8). The feeder count is the length of `feeders`, and bits 0 to 2 of the presence byte
say which optional fields are there; `reserved` is the rest of the presence byte, as carried. -/
structure StatusBody where
  vb : Word16
  load : Byte
  g1 : Byte
  g2 : Byte
  flags : Byte
  tracker : Byte
  feeders : List FeederInfo
  pending : Byte
  mostUrgent : Byte
  inputFlags : Word16
  reserved : BitVec 5
  presented : Option PresentedInfo
  result : Option ResultInfo
  replyTo : Option Byte
  deriving DecidableEq, Repr

/-- An INTERTRIP body (section 7.8). -/
structure IntertripBody where
  target : Byte
  feeder : Byte
  sectionId : Word16
  cause : Byte
  index : Byte
  age : Word16
  deriving DecidableEq, Repr

/-- A TEST NOTICE body (section 7.8): phase 1 START, 2 END. -/
structure NoticeBody where
  sectionId : Word16
  feeder : Byte
  phase : Byte
  deriving DecidableEq, Repr

/-- A LOCATE body (section 7.8): the sought station, 0 for all. -/
structure LocateBody where
  sought : Byte
  deriving DecidableEq, Repr

/-- A COMMAND body (section 7.8). -/
structure CommandBody where
  target : Byte
  code : Byte
  number : Byte
  arg : Word16
  tag : Byte
  deriving DecidableEq, Repr

/-- The last-trip record of a REPORT body (section 7.8). -/
structure TripInfo where
  cause : Byte
  flags : Byte
  time : Word32
  peak : Word16
  deltaI : Word16
  vl : Word16
  origin : Byte
  repeats : Byte
  deriving DecidableEq, Repr

/-- A REPORT body (section 7.8). Bits 0 and 1 of the presence byte are `hasCause` and `hasDetail`, bit 2 says that
`record` is there; `reserved` is the rest, as carried. -/
structure ReportBody where
  tag : Byte
  kind : Byte
  objectClass : Byte
  objectIndex : Byte
  priority : Byte
  hasCause : Bool
  hasDetail : Bool
  reserved : BitVec 5
  cause : Byte
  first : Word32
  last : Word32
  count : Word16
  detail : Word16
  state : Byte
  record : Option TripInfo
  deriving DecidableEq, Repr

/-- The body of a frame; its constructor is the frame's kind (section 7.8). -/
inductive Payload
  | status (b : StatusBody)
  | intertrip (b : IntertripBody)
  | testNotice (b : NoticeBody)
  | locate (b : LocateBody)
  | command (b : CommandBody)
  | report (b : ReportBody)
  deriving DecidableEq, Repr

/-- A pilot frame: header and body. Its CRC is formed when it is sent (R134). -/
structure Frame where
  header : Header
  payload : Payload
  deriving DecidableEq, Repr

/-- What a COMMAND frame carries beside its command code: the port it was heard on, its header and the fields of its
body (section 7.8). -/
structure CommandOperands where
  port : Port
  header : Header
  target : Byte
  number : Byte
  arg : Word16
  tag : Byte
  deriving DecidableEq, Repr

/-- The commands of the block, one constructor for each row of spec/opcode_table.json, in the table's order. -/
inductive Instr
  | reset (straps : Byte)
  | imageReadComplete (image : List Byte)
  | imageReadTimeout
  | sampleArrival (l : Lane) (raw : Word16)
  | silenceTimerExpiry (l : Lane)
  | stepTimerExpiry
  | crossingWatchExpiry (src : Source)
  | seekTimerExpiry
  | holdoverTimerExpiry
  | retryTimerExpiry
  | firing (g : Group)
  | pulseEnd (g : Group)
  | wakeTimerExpiry
  | lowvTimerExpiry (f : Feeder)
  | contactRawChange (f : Feeder) (closed : Bool)
  | contactDebounceExpiry (f : Feeder)
  | topenExpiry (f : Feeder)
  | tcloseExpiry (f : Feeder)
  | reclaimExpiry (f : Feeder)
  | deadTimeExpiry (f : Feeder)
  | noticeStageExpiry (f : Feeder)
  | contactorStageExpiry (f : Feeder)
  | firstHalfExpiry (f : Feeder)
  | secondHalfExpiry (f : Feeder)
  | liveTimerExpiry (f : Feeder)
  | followTimerExpiry (f : Feeder)
  | peerNoticeExpiry (f : Feeder)
  | segmentBusy (p : Port)
  | segmentIdle (p : Port)
  | gapTimerExpiry (p : Port)
  | frameSent (p : Port)
  | collision (p : Port)
  | backoffTimerExpiry (p : Port)
  | quietTimerExpiry (p : Port)
  | fragment (p : Port) (bytes : List Byte)
  | badReception (p : Port) (bytes : List Byte)
  | statusReceived (p : Port) (h : Header) (b : StatusBody)
  | intertripReceived (p : Port) (h : Header) (b : IntertripBody)
  | testNoticeReceived (p : Port) (h : Header) (b : NoticeBody)
  | locateReceived (p : Port) (h : Header) (b : LocateBody)
  | reportReceived (p : Port) (h : Header) (b : ReportBody)
  | statusTimerExpiry
  | listenerExpiry (station : Byte)
  | staleTimerExpiry (station : Byte)
  | removalTimerExpiry (station : Byte)
  | locateTimerExpiry (station : Byte)
  | repeatTimerExpiry (f : Feeder)
  | confirmTimerExpiry (f : Feeder)
  | dwellTimerExpiry
  | decayTimerExpiry
  | openFeeder (c : CommandOperands)
  | closeFeeder (c : CommandOperands)
  | blockReclose (c : CommandOperands)
  | unblockReclose (c : CommandOperands)
  | resetFeeder (c : CommandOperands)
  | resetGroup (c : CommandOperands)
  | setVoltage (c : CommandOperands)
  | standby (c : CommandOperands)
  | wake (c : CommandOperands)
  | setFloor (c : CommandOperands)
  | acceptAlarm (c : CommandOperands)
  | alarmDone (c : CommandOperands)
  | clearInputFlags (c : CommandOperands)
  | clearOverflow (c : CommandOperands)
  | restart (c : CommandOperands)
  | unknownCommand (c : CommandOperands) (code : Byte)
  | restartTimerExpiry
  | inputRawChange (i : Input) (closed : Bool)
  | inputDebounceExpiry (i : Input)
  deriving DecidableEq, Repr

end Sys2Proof
end

