-- ==== Sys2Proof/Decode.lean ====
section
/-! DEFINITION. The command that a word spells by the bits of spec/opcode_table.json. The table gives no row any bits, so
no word spells a command (log 39); the frames of section 7.8 are laid out and read in Machine/Operands.lean. -/

namespace Sys2Proof

/-- The command a word spells by the table's bits: none, because no row has bits (log 39). -/
def decodeTableWord (_nbits _w : Nat) : Option Instr := none

end Sys2Proof
end

