-- ==== Sys2Proof/Config.lean ====
section
/-! DEFINITION. What one station's configuration fixes: the settings of the image (Chapter 11), as the Configuration
Loader keeps them after clamping, and the one value the manual leaves open. -/

namespace Sys2Proof

/-- Gain and offset of one lane (section 1.2). -/
structure LaneSettings where
  gain : Int
  offset : Int
  deriving DecidableEq, Repr

/-- The timebase part of the image (section 11.2): nominal frequency 50 or 60, Vnom, Vsq, Thold in ms, the
preference list in order, and the invert flags. -/
structure TimebaseSettings where
  frequency : Nat
  vnom : Int
  vsq : Int
  thold : Nat
  prefs : List Source
  invert : Vector Bool 3
  deriving DecidableEq, Repr

/-- The rectifier part of the image, in image order (section 11.5). Irated, Tstep, Tmax, Bband and Tdw are the
load-sharing settings. -/
structure RectifierSettings where
  enabled : Vector Bool 2
  vset : Int
  vmin : Int
  vmax : Int
  droop : Int
  kp : Int
  ki : Int
  alphaMin : Int
  alphaMax : Int
  ilim : Vector Int 2
  igfault : Int
  irated : Int
  pulseWidth : Int
  vwake : Int
  tstep : Int
  tmax : Int
  bband : Int
  tdw : Nat
  deriving DecidableEq, Repr

/-- One feeder block of the image (section 11.5), with its section map entry. Times in ms, Trise in samples. -/
structure FeederSettings where
  enabled : Bool
  observe : Bool
  liveLineAllowed : Bool
  imax : Int
  dstart : Int
  dend : Int
  deltaTrip : Int
  trise : Nat
  vlow : Int
  tlow : Nat
  vsupplyMin : Int
  topen : Nat
  tclose : Nat
  ioff : Int
  nmax : Nat
  tdead : Nat
  ttest : Nat
  ktest : Int
  vlive : Int
  tfollow : Nat
  treclaim : Nat
  sectionId : Word16
  farStation : Byte
  farFeeder : Byte
  deriving DecidableEq, Repr

/-- What an input's level means to the station (section 10.1). -/
inductive InputRole
  | none
  | alarm
  | interlock (f : Feeder)
  | groupBlock (g : Group)
  | door
  deriving DecidableEq, Repr

/-- One input block of the image (section 10.1). -/
structure InputSettings where
  inverted : Bool
  risingAlarm : Bool
  fallingAlarm : Bool
  debounce : Nat
  role : InputRole
  priority : Nat
  deriving DecidableEq, Repr

/-- The image copy: the settings after clamping, as handed to the blocks (R183, R184). -/
structure Settings where
  gateway1 : Byte
  gateway2 : Byte
  portEnabled : Vector Bool 2
  junction : Bool
  loopMark : Bool
  lanes : Vector LaneSettings 14
  timebase : TimebaseSettings
  rectifier : RectifierSettings
  feeders : Vector FeederSettings 4
  tstale : Nat
  inputs : Vector InputSettings 12
  deriving DecidableEq, Repr

/-- A feeder block at the defaults of section 11.5. The section id, far station and far feeder have no default;
section 0, far station 0 and far feeder 1 stand here (log 27). -/
def FeederSettings.default : FeederSettings :=
  { enabled := true, observe := false, liveLineAllowed := false, imax := 4500, dstart := 40, dend := 10,
    deltaTrip := 1500, trise := 300, vlow := 4000, tlow := 200, vsupplyMin := 5000, topen := 80, tclose := 150,
    ioff := 50, nmax := 2, tdead := 5000, ttest := 1000, ktest := 179, vlive := 3000, tfollow := 30000,
    treclaim := 60000, sectionId := 0, farStation := 0, farFeeder := 1 }

/-- The defaults of section 11.5. They stand in for the image copy only where a rule gives a station without one a
setting: Topen in CONFIG FAULT (R82, log 27). -/
def Settings.default : Settings :=
  { gateway1 := 1, gateway2 := 0, portEnabled := .replicate 2 true, junction := false, loopMark := false,
    lanes := .replicate 14 { gain := 65535, offset := 0 },
    timebase := { frequency := 50, vnom := 5880, vsq := 2940, thold := 100, prefs := [0, 1, 2],
                  invert := .replicate 3 false },
    rectifier :=
      { enabled := .replicate 2 true, vset := 7500, vmin := 6000, vmax := 8250, droop := 20, kp := 128, ki := 16,
        alphaMin := 50, alphaMax := 1500, ilim := .replicate 2 3000, igfault := 6000, irated := 4000,
        pulseWidth := 100, vwake := 6200, tstep := 10, tmax := 150, bband := 20, tdw := 2000 },
    feeders := .replicate 4 .default,
    tstale := 500,
    inputs := .replicate 12
      { inverted := false, risingAlarm := false, fallingAlarm := false, debounce := 10, role := .none,
        priority := 8 } }

/-- FREE VALUE (log 24): the quotient by a divisor of 0. The manual's divisors (P, Vd0, Irated) are never 0 in a
station that runs, so it gives no such quotient; nothing here constrains it. -/
opaque Config.quotientByZero : Int → Int

end Sys2Proof
end

