-- ==== Sys2Proof/Machine/State.lean ====
section
/-! DEFINITION. The state of the part as plain data: one record for each of its ten blocks (00_scope.md, Block overview),
the levels at its pins, the clock and the queue of waiting commands; the reasons a step could stop; and the state right
after reset. -/

namespace Sys2Proof.Machine

/-- A timer: the microsecond of `State.clock` at which it runs out, or none while it is stopped (log 1). -/
abbrev Timer := Option Nat

/-! ### Lane Intake -/

/-- Whether a lane or a peer is trusted (sections 1.1 and 8.1). -/
inductive Health
  | fresh
  | stale
  deriving DecidableEq, Repr

/-- The lane record (section 1.1). -/
structure LaneRec where
  value : Int
  health : Health
  invalidRun : Nat
  goodRun : Nat
  silence : Timer
  deriving DecidableEq, Repr

/-- Lane Intake (section 1.1 and 1.4). `primed` says that the feeder's current lane has had its first scaled arrival
(R7). -/
structure LaneIntake where
  lanes : Vector LaneRec 14
  ibus : Int
  di : Vector Int 4
  prev : Vector Int 4
  primed : Vector Bool 4
  deriving DecidableEq, Repr

/-- R1. -/
def LaneIntake.reset : LaneIntake :=
  { lanes := .replicate 14 { value := 0, health := .stale, invalidRun := 0, goodRun := 0, silence := none },
    ibus := 0, di := .replicate 4 0, prev := .replicate 4 0, primed := .replicate 4 false }

/-! ### Supply Timebase -/

/-- The tracker states (section 2.5). -/
inductive Tracker
  | off
  | seek
  | locked
  | holdover
  | fault
  deriving DecidableEq, Repr

/-- An entry of the source table (section 2.1). `counts` says that the open half cycle opened after the lane last became
FRESH (R18, log 14). `sinceCrossing` counts the lane's arrivals since the last positive crossing, whose fraction is
`fraction`; it is none when there is no such crossing to measure from (R22). -/
structure SourceRec where
  squelched : Bool
  amplitude : Int
  lowCount : Nat
  goodCount : Nat
  peak : Int
  halfOpen : Bool
  counts : Bool
  posArmed : Bool
  negArmed : Bool
  prev : Option Int
  invalidSince : Nat
  watch : Timer
  sinceCrossing : Option Nat
  fraction : Int
  deriving DecidableEq, Repr

/-- The Supply Timebase: source table and tracker record (sections 2.1, 2.4 and 2.5). `period` is P in 1/16 us, `phase`
the tracked phase in fractional units, `stepInUse` the phase step as of the last pacing step and `lastStep` its time
(R23). -/
structure Timebase where
  sources : Vector SourceRec 3
  tracker : Tracker
  active : Option Source
  window : List Int
  failures : Nat
  stepLoss : Nat
  goodCrossings : Nat
  period : Int
  phase : Int
  stepInUse : Int
  lastStep : Nat
  vamp : Int
  pacing : Option Source
  seekTimer : Timer
  holdoverTimer : Timer
  retryTimer : Timer
  stepTimer : Timer
  deriving DecidableEq, Repr

/-- R16. The empty seek window, the good-crossing count 0 and what the record holds of no pacing step and no crossing yet
are the model's choice (DESIGN CHOICE, log 57). -/
def Timebase.reset : Timebase :=
  { sources := .replicate 3
      { squelched := true, amplitude := 0, lowCount := 0, goodCount := 0, peak := 0, halfOpen := false,
        counts := false, posArmed := false, negArmed := false, prev := none, invalidSince := 0, watch := none,
        sinceCrossing := none, fraction := 0 },
    tracker := .off, active := none, window := [], failures := 0, stepLoss := 0, goodCrossings := 0,
    period := 320000, phase := 0, stepInUse := 1179648, lastStep := 0, vamp := 0, pacing := none,
    seekTimer := none, holdoverTimer := none, retryTimer := none, stepTimer := none }

/-! ### Firing Controller -/

/-- The group states (section 3.2). -/
inductive GroupState
  | off
  | blocked
  | starting
  | running
  deriving DecidableEq, Repr

/-- The members of a block-cause set (section 3.2). -/
inductive BlockCause
  | timebase
  | supply
  | measure
  | standby
  | input
  | breakerFailure
  | fault
  deriving DecidableEq, Repr

/-- A group's block-cause set: each member present or absent (R37). -/
structure CauseSet where
  timebase : Bool
  supply : Bool
  measure : Bool
  standby : Bool
  input : Bool
  breakerFailure : Bool
  fault : Bool
  deriving DecidableEq, Repr

/-- The armed firing: arm (numbered from 0), theta and alpha in 0.1 degree (R51). -/
structure Armed where
  arm : Fin 6
  theta : Int
  alpha : Int
  deriving DecidableEq, Repr

/-- The pulse being emitted: its main arm (numbered from 0) and the phase at which it ends (R36). -/
structure Pulse where
  arm : Fin 6
  endPhase : Int
  deriving DecidableEq, Repr

/-- A group record (Chapter 3). -/
structure GroupRec where
  state : GroupState
  causes : CauseSet
  prevAlpha : Int
  armed : Option Armed
  pulse : Option Pulse
  limited : Bool
  overRun : Nat
  deriving DecidableEq, Repr

/-- The Firing Controller: groups, regulator record and standby record (Chapter 3). -/
structure Firing where
  groups : Vector GroupRec 2
  iacc : Int
  vset : Option Int
  standby : Bool
  entryTime : Option Nat
  wakeTimer : Timer
  deriving DecidableEq, Repr

/-- R35, R53. -/
def Firing.reset : Firing :=
  { groups := .replicate 2
      { state := .blocked,
        causes := { timebase := true, supply := true, measure := true, standby := false, input := false,
                    breakerFailure := false, fault := false },
        prevAlpha := 1500, armed := none, pulse := none, limited := false, overRun := 0 },
    iacc := 0, vset := none, standby := false, entryTime := none, wakeTimer := none }

/-! ### Feeder Protection and Feeder Sequencer -/

/-- The feeder states (section 5.1). -/
inductive FeederState
  | opened
  | closing
  | closed
  | tripping
  | tripped
  | testing
  | lockout
  | failed
  deriving DecidableEq, Repr

/-- The causes of section 7.8: trip causes, test judgements and wake causes. -/
inductive Cause
  | imax
  | ddl
  | lowv
  | remote
  | direct
  | lane
  | bf
  | control
  | fail
  | notSafe
  | abandoned
  | vbLow
  | feederTrip
  | command
  | noRunningPeer
  | peerStandby
  deriving DecidableEq, Repr

/-- The last-trip record (section 4.7). -/
structure LastTrip where
  cause : Cause
  observed : Bool
  time : Nat
  peak : Int
  deltaI : Option Int
  vl : Int
  origin : Option Byte
  repeats : Nat
  deriving DecidableEq, Repr

/-- A protection record (section 4.1). `ddlRising` is the DDL state RISING. The peak window holds (arrival in us,
magnitude), newest first. -/
structure ProtRec where
  copy : FeederState
  imaxRun : Nat
  imaxPicked : Bool
  ddlRising : Bool
  ddlBase : Int
  ddlT : Nat
  ddlLowRun : Nat
  ddlPeak : Int
  ddlPicked : Bool
  lowvTimer : Timer
  lowvPicked : Bool
  window : List (Nat × Int)
  record : Option LastTrip
  deriving DecidableEq, Repr

/-- Feeder Protection (Chapter 4). -/
structure Protection where
  feeders : Vector ProtRec 4
  deriving DecidableEq, Repr

/-- R61. -/
def Protection.reset : Protection :=
  { feeders := .replicate 4
      { copy := .opened, imaxRun := 0, imaxPicked := false, ddlRising := false, ddlBase := 0, ddlT := 0,
        ddlLowRun := 0, ddlPeak := 0, ddlPicked := false, lowvTimer := none, lowvPicked := false, window := [],
        record := none } }

/-- The operation in flight (section 5.1). -/
inductive Operation
  | none
  | trip
  | close
  | testContactor
  deriving DecidableEq, Repr

/-- The after-states of a trip (section 5.1). -/
inductive AfterState
  | tripped
  | opened
  | lockout
  deriving DecidableEq, Repr

/-- The reclose roles (section 5.1). -/
inductive Role
  | leader
  | follower
  | manual
  deriving DecidableEq, Repr

/-- The hold reasons (section 6.2). -/
inductive HoldReason
  | supply
  | interlock
  | lane
  | peerTesting
  deriving DecidableEq, Repr

/-- A feeder's hold-reason set: each member present or absent (section 5.1). -/
structure HoldSet where
  supply : Bool
  interlock : Bool
  lane : Bool
  peerTesting : Bool
  deriving DecidableEq, Repr

/-- The live timer of a follower (section 6.1). -/
inductive LiveTimer
  | stopped
  | running (until_ : Nat)
  | elapsed
  deriving DecidableEq, Repr

/-- The stages of a line test (section 6.1). -/
inductive Stage
  | notice
  | contactor
  | firstHalf
  | secondHalf
  deriving DecidableEq, Repr

/-- The test record (section 6.1). Its stage timer always runs. -/
structure TestRec where
  stage : Stage
  timer : Nat
  startSent : Bool
  agreement : Option Bool
  deriving DecidableEq, Repr

/-- The peer-notice record (section 6.1). -/
structure NoticeRec where
  origin : Byte
  timer : Nat
  deriving DecidableEq, Repr

/-- A feeder record with its reclose fields (sections 5.1 and 6.1) and its three outputs (R78). -/
structure FeederRec where
  state : FeederState
  op : Operation
  tripCause : Option Cause
  after : Option AfterState
  attempts : Nat
  role : Option Role
  blocked : Bool
  holds : HoldSet
  contact : Bool
  contactTimer : Timer
  topen : Timer
  tclose : Timer
  reclaim : Timer
  dead : Timer
  follow : Timer
  live : LiveTimer
  test : Option TestRec
  notice : Option NoticeRec
  tripCoil : Bool
  closeCoil : Bool
  contactor : Bool
  deriving DecidableEq, Repr

/-- The Feeder Sequencer (Chapters 5 and 6). -/
structure Sequencer where
  feeders : Vector FeederRec 4
  deriving DecidableEq, Repr

/-- R79, R103: a feeder record after reset with its debounced contact at the given raw level. -/
def FeederRec.reset (contact : Bool) : FeederRec :=
  { state := .opened, op := .none, tripCause := none, after := none, attempts := 0, role := none, blocked := false,
    holds := { supply := false, interlock := false, lane := true, peerTesting := false },
    contact := contact, contactTimer := none, topen := none, tclose := none, reclaim := none, dead := none,
    follow := none, live := .stopped, test := none, notice := none,
    tripCoil := false, closeCoil := false, contactor := false }

/-! ### Pilot Port controller -/

/-- The port states (section 7.1). -/
inductive PortState
  | off
  | quiet
  | active
  deriving DecidableEq, Repr

/-- The transmit states (section 7.2). -/
inductive TxState
  | idle
  | defer
  | gap
  | send
  | backoff
  deriving DecidableEq, Repr

/-- The two classes of frames, each with its queue (section 7.3). -/
inductive FrameClass
  | urgent
  | routine
  deriving DecidableEq, Repr

/-- A queued frame: own or forwarded, with the station time at which it was queued (section 7.1). `restart` marks a copy
of the STATUS whose sending a RESTART waits for (R187, log 29). -/
structure QFrame where
  frame : Frame
  own : Bool
  queuedAt : Nat
  restart : Bool
  deriving DecidableEq, Repr

/-- A port record (section 7.1). `hand` is the class whose oldest frame is in hand. `line` holds the bytes the port is
putting on its segment, `sendEnd` the time at which the last of them has gone out. `deaf` says that the rest of a
transmission the port collided with is being passed over (R128, log 19). The error window holds station times, oldest
first. -/
structure PortRec where
  state : PortState
  quietTimer : Timer
  tx : TxState
  hand : Option FrameClass
  attempts : Nat
  urgent : List QFrame
  routine : List QFrame
  backoffReg : Word16
  gapTimer : Timer
  backoffTimer : Timer
  sendEnd : Timer
  line : List Byte
  deaf : Bool
  errorWindow : List Nat
  errors : Nat
  drops : Nat
  deriving DecidableEq, Repr

/-- An entry of the listener list (R140). -/
structure Listener where
  station : Byte
  timer : Nat
  deriving DecidableEq, Repr

/-- The Pilot Port controller (Chapter 7). The seen list holds (origin, sequence), oldest first. -/
structure Pilot where
  ports : Vector PortRec 2
  seen : List (Byte × Byte)
  seq : Byte
  listeners : List Listener
  statusTimer : Timer
  deriving DecidableEq, Repr

/-- R124. The backoff register's reset value is the model's (log 5). -/
def Pilot.reset : Pilot :=
  { ports := .replicate 2
      { state := .off, quietTimer := none, tx := .idle, hand := none, attempts := 0, urgent := [], routine := [],
        backoffReg := 1, gapTimer := none, backoffTimer := none, sendEnd := none, line := [], deaf := false,
        errorWindow := [], errors := 0, drops := 0 },
    seen := [], seq := 0, listeners := [], statusTimer := none }

/-! ### Section Coordinator -/

/-- How the last STATUS of a peer reached this station (section 8.1). -/
inductive Reach
  | direct (p : Port)
  | forwarded (p : Port)
  deriving DecidableEq, Repr

/-- The stages of a locate record (section 8.2). -/
inductive LocateStage
  | idle
  | first
  | second
  | again
  deriving DecidableEq, Repr

/-- A peer-table entry (section 8.1), with the locate record of a pinned entry (section 8.2; idle in an unpinned
one). -/
structure PeerEntry where
  station : Byte
  pinned : Bool
  reach : Option Reach
  health : Health
  lastHeard : Option Nat
  staleTimer : Timer
  removalTimer : Timer
  contents : Option StatusBody
  locate : LocateStage
  locateTimer : Timer
  deriving DecidableEq, Repr

/-- The states of an intertrip sender record (section 8.4). -/
inductive SenderState
  | idle
  | sending
  | watching
  deriving DecidableEq, Repr

/-- The confirmation of an intertrip (section 8.4). -/
inductive Confirmation
  | waiting
  | confirmed
  | unconfirmed
  deriving DecidableEq, Repr

/-- An intertrip sender record (section 8.4). -/
structure SenderRec where
  state : SenderState
  cause : Option Cause
  tripTime : Option Nat
  nextIndex : Nat
  repeatTimer : Timer
  confirmation : Option Confirmation
  confirmTimer : Timer
  deriving DecidableEq, Repr

/-- The load condition (section 8.6). -/
inductive LoadCondition
  | none
  | high
  | low
  deriving DecidableEq, Repr

/-- The Section Coordinator (Chapter 8). The peer table is in order of creation. -/
structure Coordinator where
  peers : List PeerEntry
  senders : Vector SenderRec 4
  load : Nat
  trim : Int
  condition : LoadCondition
  dwellTimer : Timer
  decayTimer : Timer
  register : Word16
  deriving DecidableEq, Repr

/-- R144. The reset values of the load-sharing register (log 5) and of a sender record's next index and confirmation
(log 53) are the model's. -/
def Coordinator.reset : Coordinator :=
  { peers := [],
    senders := .replicate 4
      { state := .idle, cause := none, tripTime := none, nextIndex := 0, repeatTimer := none, confirmation := none,
        confirmTimer := none },
    load := 0, trim := 0, condition := .none, dwellTimer := none, decayTimer := none, register := 1 }

/-! ### Report Controller -/

/-- The alarm kinds (section 9.2). -/
inductive AlarmKind
  | breakerFailure
  | groupFault
  | lockout
  | feederTrip
  | intertripUnconfirmed
  | timebaseFault
  | laneStale
  | closeFail
  | uncommandedClose
  | lineTestFail
  | wouldTrip
  | closeRefused
  | peerLost
  | mapMismatch
  | timebaseState
  | pilotCongestion
  | portError
  | portQuiet
  | inputChange
  | configClamped
  | commandRejected
  | standby
  deriving DecidableEq, Repr

/-- The object of an alarm (section 9.1). -/
inductive AlarmObject
  | station
  | feeder (f : Feeder)
  | group (g : Group)
  | lane (l : Lane)
  | input (i : Input)
  | port (p : Port)
  | peer (station : Byte)
  deriving DecidableEq, Repr

/-- Where an alarm entry stands with the gateway (section 9.1). -/
inductive AlarmState
  | pending
  | presented
  | accepted
  deriving DecidableEq, Repr

/-- An entry of the alarm table (section 9.1). -/
structure Alarm where
  kind : AlarmKind
  object : AlarmObject
  priority : Nat
  cause : Option Cause
  first : Nat
  last : Nat
  count : Nat
  detail : Option Int
  state : AlarmState
  tag : Option Byte
  deriving DecidableEq, Repr

/-- The result codes (section 7.8). -/
inductive CommandResult
  | done
  | refusedState
  | refusedInterlock
  | badArgument
  | staleTag
  | notTaken
  deriving DecidableEq, Repr

/-- The last command result (Chapter 9): gateway station, command code as received, result. -/
structure LastResult where
  gateway : Byte
  code : Byte
  result : CommandResult
  deriving DecidableEq, Repr

/-- The Report Controller (Chapter 9). The table is in order of addition. The presentation slot is the one entry of the
table that is PRESENTED or ACCEPTED. -/
structure Reports where
  table : List Alarm
  tag : Byte
  floor : Nat
  overflow : Bool
  lastResult : Option LastResult
  deriving DecidableEq, Repr

/-- R161. -/
def Reports.reset : Reports :=
  { table := [], tag := 0, floor := 16, overflow := false, lastResult := none }

/-! ### Input Monitor and Configuration Loader -/

/-- An input record (section 10.1); `active` is the level. -/
structure InputRec where
  active : Bool
  timer : Timer
  changed : Bool
  deriving DecidableEq, Repr

/-- The Input Monitor (Chapter 10). -/
structure InputMonitor where
  inputs : Vector InputRec 12
  deriving DecidableEq, Repr

/-- R175. -/
def InputMonitor.reset : InputMonitor :=
  { inputs := .replicate 12 { active := false, timer := none, changed := false } }

/-- The station modes (Chapter 11). -/
inductive Mode
  | starting
  | configFault
  | running
  deriving DecidableEq, Repr

/-- The Configuration Loader (Chapter 11). `readTimer` runs while the image is being read (R183). -/
structure Loader where
  station : Byte
  mode : Mode
  settings : Option Settings
  clampCount : Nat
  restartTimer : Timer
  readTimer : Timer
  deriving DecidableEq, Repr

/-- The levels standing at the part's inputs (log 6). A raw contact is true while closed. -/
structure Pins where
  straps : Byte
  contacts : Vector Bool 4
  inputs : Vector Bool 12
  busy : Vector Bool 2
  deriving DecidableEq, Repr

/-- The levels the model starts from: straps at 1, every contact open, both segments idle (log 4). -/
def Pins.reset : Pins :=
  { straps := 1, contacts := .replicate 4 false, inputs := .replicate 12 false, busy := .replicate 2 false }

/-- The state of the part. `clock` is the time since the end of reset in us (log 1); `pending` is the queue of waiting
commands, first in, first out. -/
structure State where
  clock : Nat
  pins : Pins
  li : LaneIntake
  st : Timebase
  fc : Firing
  fp : Protection
  fs : Sequencer
  pp : Pilot
  sc : Coordinator
  rc : Reports
  im : InputMonitor
  cl : Loader
  pending : List Instr
  deriving DecidableEq, Repr

/-- Why the part could stop with a fault. The manual stops the part nowhere: no meaning raises this (log 34). -/
inductive Fault
  /-- Raised by no meaning. Safe: it is never answered. -/
  | neverRaised
  deriving DecidableEq, Repr

/-- Why the model could refuse a command. -/
inductive Refusal
  /-- Raised by `exec`'s arm for a command that has no meaning yet. Safe: the model stops. -/
  | notModelled (mnemonic : String)
  deriving DecidableEq, Repr

/-- The part right after reset, its straps read as 1 and the read of the image just started (R182, R183, log 4). -/
def State.reset : State :=
  { clock := 0, pins := .reset, li := .reset, st := .reset, fc := .reset, fp := .reset,
    fs := { feeders := .replicate 4 (.reset false) },
    pp := .reset, sc := .reset, rc := .reset, im := .reset,
    cl := { station := 1, mode := .starting, settings := none, clampCount := 0, restartTimer := none,
            readTimer := some 500000 },
    pending := [] }

end Sys2Proof.Machine
end

