-- ==== Sys2Proof/Machine/Ops.lean ====
section
/-! DEFINITION. The operations every block uses: time and timers, the settings held, and the reading and writing of one
lane, source, group, feeder, port, sender or input record. -/

namespace Sys2Proof.Machine

/-! ### Time (00_scope.md, Units and ranges; log 1) -/

/-- One millisecond in us. -/
def msec : Nat := 1000

/-- The station time in ms, a 32-bit unsigned number (00_scope.md, Units and ranges). -/
def State.time (s : State) : Nat := s.clock / 1000 % 4294967296

/-- The station time from `a` to `b`, taken modulo 2^32 (00_scope.md, Units and ranges). -/
def elapsed (a b : Nat) : Nat := (b + 4294967296 - a) % 4294967296

/-- A timer started now to run for `us` microseconds. -/
def State.after (s : State) (us : Nat) : Timer := some (s.clock + us)

/-- A timer expires when it is running and its time has come (log 2). -/
def Timer.due (t : Timer) (clock : Nat) : Bool :=
  match t with
  | some d => decide (d ≤ clock)
  | none => false

/-- Addition to a counter that stops at its maximum (00_scope.md, Arithmetic). -/
def countUpTo (limit n : Nat) : Nat := min limit (n + 1)

/-- Division rounding toward minus infinity by a positive divisor (00_scope.md, Arithmetic); the quotient by 0, which no
run reaches, is the free value of log 24. -/
def floorDiv (a b : Int) : Int := if b = 0 then Config.quotientByZero a else a / b

/-! ### Settings (log 31) -/

/-- The settings in force: the image copy, or the defaults while there is none (log 27). -/
def State.settings (s : State) : Settings := s.cl.settings.getD Settings.default

/-- The lane settings, and every other part of the image, have been handed over (R1, R185). -/
def State.handedOver (s : State) : Bool := s.cl.settings.isSome

def State.running (s : State) : Bool := s.cl.mode == .running

def State.inConfigFault (s : State) : Bool := s.cl.mode == .configFault

def State.rect (s : State) : RectifierSettings := s.settings.rectifier

def State.feederSet (s : State) (f : Feeder) : FeederSettings := s.settings.feeders[f]

/-- The ranked sources, in preference order; none before the hand-over (R16). -/
def State.ranked (s : State) : List Source :=
  match s.cl.settings with
  | some c => c.timebase.prefs
  | none => []

/-- A feeder takes contact edges and requests when it is enabled, and every feeder does in CONFIG FAULT (R80, R82). -/
def State.feederEnabled (s : State) (f : Feeder) : Bool :=
  s.inConfigFault || (s.handedOver && (s.feederSet f).enabled)

/-! ### Lanes (section 1.1) -/

/-- Lf, the current lane of a feeder. -/
def currentLane (f : Feeder) : Lane := ⟨f.val + 1, by omega⟩

/-- L(4+f), the line-side voltage lane of a feeder. -/
def lineLane (f : Feeder) : Lane := ⟨f.val + 5, by omega⟩

/-- L(8+g), the current lane of a group. -/
def groupLane (g : Group) : Lane := ⟨g.val + 9, by omega⟩

/-- The lane of an AC source. -/
def sourceLane (src : Source) : Lane := ⟨src.val + 11, by omega⟩

/-- What a lane measures (section 1.1). -/
inductive LaneUse
  | busbar
  | current (f : Feeder)
  | line (f : Feeder)
  | group (g : Group)
  | source (src : Source)
  deriving DecidableEq, Repr

/-- The lane table of section 1.1. -/
def laneUse (l : Lane) : LaneUse :=
  if _h0 : l.val = 0 then .busbar
  else if _h1 : l.val < 5 then .current ⟨l.val - 1, by omega⟩
  else if _h2 : l.val < 9 then .line ⟨l.val - 5, by omega⟩
  else if _h3 : l.val < 11 then .group ⟨l.val - 9, by omega⟩
  else .source ⟨l.val - 11, by omega⟩

def State.lane (s : State) (l : Lane) : LaneRec := s.li.lanes[l]

def State.setLane (s : State) (l : Lane) (r : LaneRec) : State :=
  { s with li := { s.li with lanes := s.li.lanes.set l r } }

def State.laneFresh (s : State) (l : Lane) : Bool := (s.lane l).health == .fresh

/-- VB, the value of L0. -/
def State.vb (s : State) : Int := (s.lane 0).value

/-- VL of a feeder, the value of L(4+f). -/
def State.vl (s : State) (f : Feeder) : Int := (s.lane (lineLane f)).value

/-- IF of a feeder, the value of Lf. -/
def State.current (s : State) (f : Feeder) : Int := (s.lane (currentLane f)).value

/-- |x|. -/
def magnitude (x : Int) : Int := max x (-x)

/-! ### Records -/

def State.source (s : State) (src : Source) : SourceRec := s.st.sources[src]

def State.modSource (s : State) (src : Source) (g : SourceRec → SourceRec) : State :=
  { s with st := { s.st with sources := s.st.sources.set src (g (s.source src)) } }

def State.group (s : State) (g : Group) : GroupRec := s.fc.groups[g]

def State.modGroup (s : State) (g : Group) (h : GroupRec → GroupRec) : State :=
  { s with fc := { s.fc with groups := s.fc.groups.set g (h (s.group g)) } }

/-- The other of two groups, or of two ports. -/
def other (g : Fin 2) : Fin 2 := 1 - g

def State.prot (s : State) (f : Feeder) : ProtRec := s.fp.feeders[f]

def State.modProt (s : State) (f : Feeder) (g : ProtRec → ProtRec) : State :=
  { s with fp := { s.fp with feeders := s.fp.feeders.set f (g (s.prot f)) } }

def State.feeder (s : State) (f : Feeder) : FeederRec := s.fs.feeders[f]

def State.modFeeder (s : State) (f : Feeder) (g : FeederRec → FeederRec) : State :=
  { s with fs := { s.fs with feeders := s.fs.feeders.set f (g (s.feeder f)) } }

def State.port (s : State) (p : Port) : PortRec := s.pp.ports[p]

def State.modPort (s : State) (p : Port) (g : PortRec → PortRec) : State :=
  { s with pp := { s.pp with ports := s.pp.ports.set p (g (s.port p)) } }

def State.sender (s : State) (f : Feeder) : SenderRec := s.sc.senders[f]

def State.modSender (s : State) (f : Feeder) (g : SenderRec → SenderRec) : State :=
  { s with sc := { s.sc with senders := s.sc.senders.set f (g (s.sender f)) } }

def State.input (s : State) (i : Input) : InputRec := s.im.inputs[i]

def State.modInput (s : State) (i : Input) (g : InputRec → InputRec) : State :=
  { s with im := { s.im with inputs := s.im.inputs.set i (g (s.input i)) } }

/-- One step for each feeder, F1 to F4 (log 12). -/
def forFeeders (g : Feeder → State → State) (s : State) : State := g 3 (g 2 (g 1 (g 0 s)))

/-- One step for each group, G1 then G2 (log 12). -/
def forGroups (g : Group → State → State) (s : State) : State := g 1 (g 0 s)

/-- One step for each port, A then B (log 12). -/
def forPorts (g : Port → State → State) (s : State) : State := g 1 (g 0 s)

/-- Change the first entry of a list that a test picks; the list as it is when none does. -/
def modFirst {α : Type} (test : α → Bool) (g : α → α) : List α → List α
  | [] => []
  | a :: as => if test a then g a :: as else a :: modFirst test g as

/-- Remove the first entry of a list that a test picks. -/
def dropFirst {α : Type} (test : α → Bool) : List α → List α
  | [] => []
  | a :: as => if test a then as else a :: dropFirst test as

end Sys2Proof.Machine
end

