-- ==== Sys2Proof/Machine/Operands.lean ====
section
/-! DEFINITION. The layouts of section 7.8: the codes, the bytes of a frame, their CRC, and the frame check of R135. -/

namespace Sys2Proof.Machine

/-! ### Bytes, high byte first -/

def byteOf (n : Nat) : Byte := BitVec.ofNat 8 n

def bytes16 (w : Word16) : List Byte := [byteOf (w.toNat / 256), byteOf w.toNat]

def bytes32 (w : Word32) : List Byte :=
  [byteOf (w.toNat / 16777216), byteOf (w.toNat / 65536), byteOf (w.toNat / 256), byteOf w.toNat]

def word16 (hi lo : Byte) : Word16 := BitVec.ofNat 16 (hi.toNat * 256 + lo.toNat)

def word32 (a b c d : Byte) : Word32 :=
  BitVec.ofNat 32 (((a.toNat * 256 + b.toNat) * 256 + c.toNat) * 256 + d.toNat)

/-- A signed value in two's complement (section 7.8). -/
def signed16 (x : Int) : Word16 := BitVec.ofInt 16 x

/-! ### CRC-16 (section 7.8) -/

/-- One bit of the CRC: generator x^16 + x^12 + x^5 + 1, most significant bit first. -/
def crcShift (c : Nat) : Nat := if c < 32768 then 2 * c else Nat.xor (2 * c - 65536) 0x1021

def crcByte (c : Nat) (b : Byte) : Nat :=
  crcShift (crcShift (crcShift (crcShift (crcShift (crcShift (crcShift (crcShift (Nat.xor c (b.toNat * 256)))))))))

/-- The CRC over some bytes, preset to all ones. -/
def crc16 (bytes : List Byte) : Word16 := BitVec.ofNat 16 (bytes.foldl crcByte 65535)

/-! ### Codes -/

def GroupState.code : GroupState → Byte
  | .off => 0
  | .blocked => 1
  | .starting => 2
  | .running => 3

def FeederState.code : FeederState → Byte
  | .opened => 0
  | .closing => 1
  | .closed => 2
  | .tripping => 3
  | .tripped => 4
  | .testing => 5
  | .lockout => 6
  | .failed => 7

def Tracker.code : Tracker → Byte
  | .off => 0
  | .seek => 1
  | .locked => 2
  | .holdover => 3
  | .fault => 4

def AlarmObject.classCode : AlarmObject → Byte
  | .station => 0
  | .feeder _ => 1
  | .group _ => 2
  | .lane _ => 3
  | .input _ => 4
  | .port _ => 5
  | .peer _ => 6

def AlarmObject.indexCode : AlarmObject → Byte
  | .station => 0
  | .feeder f => byteOf (f.val + 1)
  | .group g => byteOf (g.val + 1)
  | .lane l => byteOf l.val
  | .input i => byteOf i.val
  | .port p => byteOf p.val
  | .peer n => n

def AlarmKind.code : AlarmKind → Byte
  | .breakerFailure => 1
  | .groupFault => 2
  | .lockout => 3
  | .feederTrip => 4
  | .intertripUnconfirmed => 5
  | .timebaseFault => 6
  | .laneStale => 7
  | .closeFail => 8
  | .uncommandedClose => 9
  | .lineTestFail => 10
  | .wouldTrip => 11
  | .closeRefused => 12
  | .peerLost => 13
  | .mapMismatch => 14
  | .timebaseState => 15
  | .pilotCongestion => 16
  | .portError => 17
  | .portQuiet => 18
  | .inputChange => 19
  | .configClamped => 20
  | .commandRejected => 21
  | .standby => 22

/-- The priority fixed by the kind (section 9.2). INPUT CHANGE takes its input's priority instead; its default stands
here. -/
def AlarmKind.priority : AlarmKind → Nat
  | .breakerFailure => 0
  | .groupFault => 1
  | .lockout => 1
  | .feederTrip => 2
  | .intertripUnconfirmed => 2
  | .timebaseFault => 2
  | .laneStale => 3
  | .closeFail => 3
  | .uncommandedClose => 3
  | .lineTestFail => 3
  | .wouldTrip => 4
  | .closeRefused => 4
  | .peerLost => 5
  | .mapMismatch => 5
  | .timebaseState => 6
  | .pilotCongestion => 6
  | .portError => 7
  | .portQuiet => 7
  | .inputChange => 8
  | .configClamped => 9
  | .commandRejected => 11
  | .standby => 12

def Cause.code : Cause → Byte
  | .imax => 1
  | .ddl => 2
  | .lowv => 3
  | .remote => 4
  | .direct => 5
  | .lane => 6
  | .bf => 7
  | .control => 8
  | .fail => 9
  | .notSafe => 10
  | .abandoned => 11
  | .vbLow => 12
  | .feederTrip => 13
  | .command => 14
  | .noRunningPeer => 15
  | .peerStandby => 16

def AlarmState.code : AlarmState → Byte
  | .pending => 0
  | .presented => 1
  | .accepted => 2

def CommandResult.code : CommandResult → Byte
  | .done => 1
  | .refusedState => 2
  | .refusedInterlock => 3
  | .badArgument => 4
  | .staleTag => 5
  | .notTaken => 6

/-- The commands of section 9.6. -/
inductive Command
  | openFeeder
  | closeFeeder
  | blockReclose
  | unblockReclose
  | resetFeeder
  | resetGroup
  | setVoltage
  | standby
  | wake
  | setFloor
  | acceptAlarm
  | alarmDone
  | clearInputFlags
  | clearOverflow
  | restart
  deriving DecidableEq, Repr

def Command.code : Command → Byte
  | .openFeeder => 1
  | .closeFeeder => 2
  | .blockReclose => 3
  | .unblockReclose => 4
  | .resetFeeder => 5
  | .resetGroup => 6
  | .setVoltage => 7
  | .standby => 8
  | .wake => 9
  | .setFloor => 10
  | .acceptAlarm => 11
  | .alarmDone => 12
  | .clearInputFlags => 13
  | .clearOverflow => 14
  | .restart => 15

/-- The command of a code; none outside 1..15 (R173). -/
def Command.ofCode (c : Byte) : Option Command :=
  match c.toNat with
  | 1 => some .openFeeder
  | 2 => some .closeFeeder
  | 3 => some .blockReclose
  | 4 => some .unblockReclose
  | 5 => some .resetFeeder
  | 6 => some .resetGroup
  | 7 => some .setVoltage
  | 8 => some .standby
  | 9 => some .wake
  | 10 => some .setFloor
  | 11 => some .acceptAlarm
  | 12 => some .alarmDone
  | 13 => some .clearInputFlags
  | 14 => some .clearOverflow
  | 15 => some .restart
  | _ => none

end Sys2Proof.Machine

namespace Sys2Proof

open Machine

/-! ### The bytes of a frame (section 7.8) -/

def Payload.kind : Payload → Byte
  | .status _ => 1
  | .intertrip _ => 2
  | .testNotice _ => 3
  | .locate _ => 4
  | .command _ => 5
  | .report _ => 6

/-- INTERTRIP and TEST NOTICE frames are urgent, the others routine (R130). -/
def Payload.frameClass : Payload → FrameClass
  | .intertrip _ => .urgent
  | .testNotice _ => .urgent
  | _ => .routine

def bit (b : Bool) (place : Nat) : Nat := if b then 2 ^ place else 0

def FeederInfo.bytes (r : FeederInfo) : List Byte := r.feeder :: bytes16 r.sectionId ++ [r.state, r.live]

/-- The presence byte of a STATUS body. -/
def StatusBody.presence (b : StatusBody) : Byte :=
  byteOf (b.reserved.toNat * 8 + bit b.presented.isSome 0 + bit b.result.isSome 1 + bit b.replyTo.isSome 2)

def StatusBody.bytes (b : StatusBody) : List Byte :=
  bytes16 b.vb ++ [b.load, b.g1, b.g2, b.flags, b.tracker, byteOf b.feeders.length] ++
    b.feeders.flatMap FeederInfo.bytes ++
    [b.pending, b.mostUrgent] ++ bytes16 b.inputFlags ++ [b.presence] ++
    (match b.presented with
      | some a => [a.tag, a.kind, a.objectClass, a.objectIndex, a.priority]
      | none => []) ++
    (match b.result with
      | some r => [r.gateway, r.command, r.result]
      | none => []) ++
    (match b.replyTo with
      | some n => [n]
      | none => [])

def IntertripBody.bytes (b : IntertripBody) : List Byte :=
  [b.target, b.feeder] ++ bytes16 b.sectionId ++ [b.cause, b.index] ++ bytes16 b.age

def NoticeBody.bytes (b : NoticeBody) : List Byte := bytes16 b.sectionId ++ [b.feeder, b.phase]

def CommandBody.bytes (b : CommandBody) : List Byte := [b.target, b.code, b.number] ++ bytes16 b.arg ++ [b.tag]

def TripInfo.bytes (r : TripInfo) : List Byte :=
  [r.cause, r.flags] ++ bytes32 r.time ++ bytes16 r.peak ++ bytes16 r.deltaI ++ bytes16 r.vl ++ [r.origin, r.repeats]

/-- The presence byte of a REPORT body. -/
def ReportBody.presence (b : ReportBody) : Byte :=
  byteOf (b.reserved.toNat * 8 + bit b.hasCause 0 + bit b.hasDetail 1 + bit b.record.isSome 2)

def ReportBody.bytes (b : ReportBody) : List Byte :=
  [b.tag, b.kind, b.objectClass, b.objectIndex, b.priority, b.presence, b.cause] ++ bytes32 b.first ++
    bytes32 b.last ++ bytes16 b.count ++ bytes16 b.detail ++ [b.state] ++
    (match b.record with
      | some r => r.bytes
      | none => [])

def Payload.bytes : Payload → List Byte
  | .status b => b.bytes
  | .intertrip b => b.bytes
  | .testNotice b => b.bytes
  | .locate b => [b.sought]
  | .command b => b.bytes
  | .report b => b.bytes

/-- The control byte: bit 7 scope, bit 6 loop mark, bits 2..0 hop count (section 7.8). -/
def Header.control (h : Header) : Byte :=
  byteOf ((match h.scope with | .segment => 0 | .network => 128) + bit h.loopMark 6 + h.hops.toNat)

/-- Header and body of a frame as sent, without its CRC. -/
def Frame.body (f : Frame) : List Byte :=
  [f.payload.kind, f.header.control, f.header.origin, f.header.seq, byteOf f.payload.bytes.length] ++ f.payload.bytes

/-- The bytes of a frame as they go onto the line: header, body and CRC, high byte first (R127, R134). -/
def Frame.bytes (f : Frame) : List Byte := f.body ++ bytes16 (crc16 f.body)

/-! ### Reading a reception (R135) -/

/-- What R135 makes of a reception. -/
inductive Reception
  | fragment
  | bad
  | good (f : Frame)
  deriving DecidableEq, Repr

/-- The feeder records of a STATUS body: so many records of five bytes, and the bytes after them. -/
def parseFeeders : Nat → List Byte → Option (List FeederInfo × List Byte)
  | 0, rest => some ([], rest)
  | n + 1, a :: hi :: lo :: st :: lv :: rest =>
    match parseFeeders n rest with
    | some (rs, tail) => some (⟨a, word16 hi lo, st, lv⟩ :: rs, tail)
    | none => none
  | _ + 1, _ => none

def parsePresented : Bool → List Byte → Option (Option PresentedInfo × List Byte)
  | false, rest => some (none, rest)
  | true, a :: b :: c :: d :: e :: rest => some (some ⟨a, b, c, d, e⟩, rest)
  | true, _ => none

def parseResult : Bool → List Byte → Option (Option ResultInfo × List Byte)
  | false, rest => some (none, rest)
  | true, a :: b :: c :: rest => some (some ⟨a, b, c⟩, rest)
  | true, _ => none

def parseReplyTo : Bool → List Byte → Option (Option Byte × List Byte)
  | false, rest => some (none, rest)
  | true, a :: rest => some (some a, rest)
  | true, [] => none

/-- The fields of a STATUS body after its presence byte; every byte must be used (R135). -/
def parseStatusTail (b : StatusBody) (presence : Byte) (rest : List Byte) : Option StatusBody :=
  match parsePresented (presence.getLsbD 0) rest with
  | none => none
  | some (presented, rest) =>
    match parseResult (presence.getLsbD 1) rest with
    | none => none
    | some (result, rest) =>
      match parseReplyTo (presence.getLsbD 2) rest with
      | some (replyTo, []) =>
        some { b with reserved := BitVec.ofNat 5 (presence.toNat / 8), presented, result, replyTo }
      | _ => none

/-- A STATUS body; its length must agree with the feeder count and the presence byte (R135). -/
def parseStatus : List Byte → Option StatusBody
  | vh :: vl :: load :: g1 :: g2 :: flags :: tracker :: count :: rest =>
    match parseFeeders count.toNat rest with
    | some (feeders, pending :: most :: fh :: fl :: presence :: rest) =>
      parseStatusTail
        { vb := word16 vh vl, load, g1, g2, flags, tracker, feeders, pending, mostUrgent := most,
          inputFlags := word16 fh fl, reserved := 0, presented := none, result := none, replyTo := none }
        presence rest
    | _ => none
  | _ => none

def parseIntertrip : List Byte → Option IntertripBody
  | [t, f, sh, sl, c, i, ah, al] => some ⟨t, f, word16 sh sl, c, i, word16 ah al⟩
  | _ => none

def parseNotice : List Byte → Option NoticeBody
  | [sh, sl, f, ph] => some ⟨word16 sh sl, f, ph⟩
  | _ => none

def parseLocate : List Byte → Option LocateBody
  | [n] => some ⟨n⟩
  | _ => none

def parseCommand : List Byte → Option CommandBody
  | [t, c, n, ah, al, tag] => some ⟨t, c, n, word16 ah al, tag⟩
  | _ => none

def parseTrip : List Byte → Option TripInfo
  | [c, fl, t0, t1, t2, t3, ph, pl, dh, dl, vh, vl, o, r] =>
    some ⟨c, fl, word32 t0 t1 t2 t3, word16 ph pl, word16 dh dl, word16 vh vl, o, r⟩
  | _ => none

/-- A REPORT body: 20 bytes, or 34 when bit 2 of its presence byte is set (R135). -/
def parseReport : List Byte → Option ReportBody
  | tag :: kind :: cls :: idx :: pr :: presence :: cause :: f0 :: f1 :: f2 :: f3 :: l0 :: l1 :: l2 :: l3 :: ch :: cl ::
      dh :: dl :: st :: rest =>
    let b : ReportBody :=
      { tag, kind, objectClass := cls, objectIndex := idx, priority := pr, hasCause := presence.getLsbD 0,
        hasDetail := presence.getLsbD 1, reserved := BitVec.ofNat 5 (presence.toNat / 8), cause,
        first := word32 f0 f1 f2 f3, last := word32 l0 l1 l2 l3, count := word16 ch cl, detail := word16 dh dl,
        state := st, record := none }
    if presence.getLsbD 2 then
      match parseTrip rest with
      | some r => some { b with record := some r }
      | none => none
    else if rest.isEmpty then some b
    else none
  | _ => none

/-- The body of a kind (section 7.8); none where the length is not that of the kind or the kind is not 1 to 6. -/
def parsePayload (kind : Byte) (body : List Byte) : Option Payload :=
  match kind.toNat with
  | 1 => (parseStatus body).map .status
  | 2 => (parseIntertrip body).map .intertrip
  | 3 => (parseNotice body).map .testNotice
  | 4 => (parseLocate body).map .locate
  | 5 => (parseCommand body).map .command
  | 6 => (parseReport body).map .report
  | _ => none

/-- The scope bit, loop mark and hop count of a control byte. -/
def parseControl (control origin seq : Byte) : Header :=
  { scope := if control.getLsbD 7 then .network else .segment, loopMark := control.getLsbD 6,
    hops := BitVec.ofNat 3 control.toNat, origin, seq }

/-- The conditions of R135 on a frame that its bytes leave open: the origin is 1 to 250, and the body is no longer than
the 42 bytes section 7.8 gives a STATUS (log 8). -/
def Frame.wellFormed (f : Frame) : Bool :=
  decide (1 ≤ f.header.origin.toNat) && decide (f.header.origin.toNat ≤ 250) && decide (f.payload.bytes.length ≤ 42)

/-- The frame check (R135): a reception shorter than 7 bytes is a fragment; any other is bad unless its length is the
body length plus 7, its CRC matches, bits 3, 4 and 5 of its control byte are clear, its kind is known and its body has
the length of that kind, and its origin is 1 to 250. -/
def parseReception (bytes : List Byte) : Reception :=
  if bytes.length < 7 then .fragment
  else
    match bytes with
    | kind :: control :: origin :: seq :: len :: rest =>
      let body := rest.take len.toNat
      if bytes.length = len.toNat + 7 ∧
          rest.drop len.toNat = bytes16 (crc16 (kind :: control :: origin :: seq :: len :: body)) ∧
          control.toNat / 8 % 8 = 0 then
        match parsePayload kind body with
        | some payload =>
          let f : Frame := { header := parseControl control origin seq, payload }
          if f.wellFormed then .good f else .bad
        | none => .bad
      else .bad
    | _ => .bad

end Sys2Proof

namespace Sys2Proof.Machine

/-! ### The tables of section 3.1 -/

/-- The natural angle of an arm, in 0.1 degree (R36); arms and groups are numbered from 0. -/
def naturalAngle (g : Group) (arm : Fin 6) : Int := ((600 + 300 * g.val + 600 * arm.val : Nat) : Int) % 3600

/-- The companion of an arm is the arm that fired before it (R36). -/
def companion (arm : Fin 6) : Fin 6 := arm - 1

/-- The arm that fires after an arm (R51). -/
def nextArm (arm : Fin 6) : Fin 6 := arm + 1

end Sys2Proof.Machine
end

