-- ==== Sys2Proof/Machine/Angles.lean ====
section
/-! DEFINITION. Stage 5 of the regulation step (R48): the integer nearest to arccos(c / 4096) in units of 0.1 degree. -/

namespace Sys2Proof.Machine

/-- For each angle a of 1..900, in rows of 30, the largest cosine demand c whose angle is a or more: the floor of
4096 cos((a - 0.5) * 0.1 degree). None of these cosines is a whole number of 4096ths, so the rule's halfway case does not
arise (log 25). -/
def angleTable : List (List Int) :=
  [[4095, 4095, 4095, 4095, 4095, 4095, 4095, 4095, 4095, 4095, 4095, 4095, 4095, 4094, 4094, 4094, 4094, 4094, 4093, 4093, 4093, 4093, 4092, 4092, 4092, 4091, 4091, 4091, 4090, 4090],
   [4090, 4089, 4089, 4089, 4088, 4088, 4087, 4087, 4086, 4086, 4085, 4085, 4084, 4084, 4083, 4083, 4082, 4081, 4081, 4080, 4080, 4079, 4078, 4078, 4077, 4076, 4076, 4075, 4074, 4073],
   [4073, 4072, 4071, 4070, 4070, 4069, 4068, 4067, 4066, 4065, 4065, 4064, 4063, 4062, 4061, 4060, 4059, 4058, 4057, 4056, 4055, 4054, 4053, 4052, 4051, 4050, 4049, 4048, 4047, 4046],
   [4045, 4043, 4042, 4041, 4040, 4039, 4038, 4036, 4035, 4034, 4033, 4031, 4030, 4029, 4028, 4026, 4025, 4024, 4022, 4021, 4020, 4018, 4017, 4015, 4014, 4013, 4011, 4010, 4008, 4007],
   [4005, 4004, 4002, 4001, 3999, 3998, 3996, 3995, 3993, 3991, 3990, 3988, 3986, 3985, 3983, 3981, 3980, 3978, 3976, 3975, 3973, 3971, 3969, 3968, 3966, 3964, 3962, 3961, 3959, 3957],
   [3955, 3953, 3951, 3949, 3947, 3946, 3944, 3942, 3940, 3938, 3936, 3934, 3932, 3930, 3928, 3926, 3924, 3922, 3920, 3918, 3915, 3913, 3911, 3909, 3907, 3905, 3903, 3901, 3898, 3896],
   [3894, 3892, 3889, 3887, 3885, 3883, 3880, 3878, 3876, 3874, 3871, 3869, 3866, 3864, 3862, 3859, 3857, 3855, 3852, 3850, 3847, 3845, 3842, 3840, 3837, 3835, 3832, 3830, 3827, 3825],
   [3822, 3820, 3817, 3814, 3812, 3809, 3807, 3804, 3801, 3799, 3796, 3793, 3791, 3788, 3785, 3782, 3780, 3777, 3774, 3771, 3768, 3766, 3763, 3760, 3757, 3754, 3751, 3749, 3746, 3743],
   [3740, 3737, 3734, 3731, 3728, 3725, 3722, 3719, 3716, 3713, 3710, 3707, 3704, 3701, 3698, 3695, 3692, 3689, 3686, 3683, 3679, 3676, 3673, 3670, 3667, 3664, 3660, 3657, 3654, 3651],
   [3647, 3644, 3641, 3638, 3634, 3631, 3628, 3624, 3621, 3618, 3614, 3611, 3608, 3604, 3601, 3597, 3594, 3591, 3587, 3584, 3580, 3577, 3573, 3570, 3566, 3563, 3559, 3556, 3552, 3549],
   [3545, 3541, 3538, 3534, 3531, 3527, 3523, 3520, 3516, 3512, 3509, 3505, 3501, 3498, 3494, 3490, 3486, 3483, 3479, 3475, 3471, 3467, 3464, 3460, 3456, 3452, 3448, 3444, 3441, 3437],
   [3433, 3429, 3425, 3421, 3417, 3413, 3409, 3405, 3401, 3397, 3393, 3389, 3385, 3381, 3377, 3373, 3369, 3365, 3361, 3357, 3353, 3349, 3344, 3340, 3336, 3332, 3328, 3324, 3320, 3315],
   [3311, 3307, 3303, 3298, 3294, 3290, 3286, 3281, 3277, 3273, 3269, 3264, 3260, 3256, 3251, 3247, 3243, 3238, 3234, 3229, 3225, 3221, 3216, 3212, 3207, 3203, 3198, 3194, 3189, 3185],
   [3180, 3176, 3171, 3167, 3162, 3158, 3153, 3149, 3144, 3140, 3135, 3130, 3126, 3121, 3116, 3112, 3107, 3102, 3098, 3093, 3088, 3084, 3079, 3074, 3070, 3065, 3060, 3055, 3051, 3046],
   [3041, 3036, 3031, 3027, 3022, 3017, 3012, 3007, 3002, 2998, 2993, 2988, 2983, 2978, 2973, 2968, 2963, 2958, 2953, 2948, 2943, 2938, 2933, 2928, 2923, 2918, 2913, 2908, 2903, 2898],
   [2893, 2888, 2883, 2878, 2873, 2868, 2863, 2858, 2853, 2847, 2842, 2837, 2832, 2827, 2822, 2816, 2811, 2806, 2801, 2796, 2790, 2785, 2780, 2775, 2769, 2764, 2759, 2754, 2748, 2743],
   [2738, 2732, 2727, 2722, 2716, 2711, 2706, 2700, 2695, 2689, 2684, 2679, 2673, 2668, 2662, 2657, 2651, 2646, 2641, 2635, 2630, 2624, 2619, 2613, 2608, 2602, 2597, 2591, 2586, 2580],
   [2574, 2569, 2563, 2558, 2552, 2547, 2541, 2535, 2530, 2524, 2518, 2513, 2507, 2501, 2496, 2490, 2484, 2479, 2473, 2467, 2462, 2456, 2450, 2445, 2439, 2433, 2427, 2422, 2416, 2410],
   [2404, 2398, 2393, 2387, 2381, 2375, 2369, 2363, 2358, 2352, 2346, 2340, 2334, 2328, 2322, 2317, 2311, 2305, 2299, 2293, 2287, 2281, 2275, 2269, 2263, 2257, 2251, 2245, 2239, 2233],
   [2227, 2221, 2215, 2209, 2203, 2197, 2191, 2185, 2179, 2173, 2167, 2161, 2155, 2149, 2143, 2137, 2131, 2124, 2118, 2112, 2106, 2100, 2094, 2088, 2081, 2075, 2069, 2063, 2057, 2051],
   [2044, 2038, 2032, 2026, 2020, 2013, 2007, 2001, 1995, 1988, 1982, 1976, 1970, 1963, 1957, 1951, 1945, 1938, 1932, 1926, 1919, 1913, 1907, 1900, 1894, 1888, 1881, 1875, 1869, 1862],
   [1856, 1849, 1843, 1837, 1830, 1824, 1818, 1811, 1805, 1798, 1792, 1785, 1779, 1773, 1766, 1760, 1753, 1747, 1740, 1734, 1727, 1721, 1714, 1708, 1701, 1695, 1688, 1682, 1675, 1669],
   [1662, 1656, 1649, 1643, 1636, 1629, 1623, 1616, 1610, 1603, 1597, 1590, 1583, 1577, 1570, 1564, 1557, 1550, 1544, 1537, 1531, 1524, 1517, 1511, 1504, 1497, 1491, 1484, 1477, 1471],
   [1464, 1457, 1451, 1444, 1437, 1431, 1424, 1417, 1410, 1404, 1397, 1390, 1384, 1377, 1370, 1363, 1357, 1350, 1343, 1336, 1330, 1323, 1316, 1309, 1303, 1296, 1289, 1282, 1275, 1269],
   [1262, 1255, 1248, 1241, 1235, 1228, 1221, 1214, 1207, 1200, 1194, 1187, 1180, 1173, 1166, 1159, 1153, 1146, 1139, 1132, 1125, 1118, 1111, 1104, 1098, 1091, 1084, 1077, 1070, 1063],
   [1056, 1049, 1042, 1035, 1029, 1022, 1015, 1008, 1001, 994, 987, 980, 973, 966, 959, 952, 945, 938, 931, 924, 917, 910, 903, 897, 890, 883, 876, 869, 862, 855],
   [848, 841, 834, 827, 820, 813, 806, 799, 792, 785, 778, 771, 764, 756, 749, 742, 735, 728, 721, 714, 707, 700, 693, 686, 679, 672, 665, 658, 651, 644],
   [637, 630, 623, 616, 608, 601, 594, 587, 580, 573, 566, 559, 552, 545, 538, 531, 524, 516, 509, 502, 495, 488, 481, 474, 467, 460, 453, 445, 438, 431],
   [424, 417, 410, 403, 396, 389, 381, 374, 367, 360, 353, 346, 339, 332, 324, 317, 310, 303, 296, 289, 282, 275, 267, 260, 253, 246, 239, 232, 225, 217],
   [210, 203, 196, 189, 182, 175, 167, 160, 153, 146, 139, 132, 125, 117, 110, 103, 96, 89, 82, 75, 67, 60, 53, 46, 39, 32, 25, 17, 10, 3]]

/-- alpha_reg (R48): how many angles of 1..900 the demand c reaches. -/
def alphaReg (c : Int) : Int :=
  ((angleTable.map fun row => row.countP fun k => decide (c ≤ k)).sum : Nat)

end Sys2Proof.Machine
end

