-- ==== Sys2Proof/Machine/Flags.lean ====
section
/-! DEFINITION. The flags and conditions that several blocks read: the sets of causes and hold reasons, the picked-up
flag, the interlock and block conditions, what a peer entry shows, and the flags of a STATUS frame. -/

namespace Sys2Proof.Machine

/-! ### Sets of causes and hold reasons (R37, section 5.1) -/

/-- A block-cause set with one member made present or absent (R37). -/
def CauseSet.put (c : CauseSet) (m : BlockCause) (present : Bool) : CauseSet :=
  match m with
  | .timebase => { c with timebase := present }
  | .supply => { c with supply := present }
  | .measure => { c with measure := present }
  | .standby => { c with standby := present }
  | .input => { c with input := present }
  | .breakerFailure => { c with breakerFailure := present }
  | .fault => { c with fault := present }

def CauseSet.has (c : CauseSet) (m : BlockCause) : Bool :=
  match m with
  | .timebase => c.timebase
  | .supply => c.supply
  | .measure => c.measure
  | .standby => c.standby
  | .input => c.input
  | .breakerFailure => c.breakerFailure
  | .fault => c.fault

def CauseSet.isEmpty (c : CauseSet) : Bool :=
  !(c.timebase || c.supply || c.measure || c.standby || c.input || c.breakerFailure || c.fault)

/-- The set with no member (R35). -/
def CauseSet.empty : CauseSet :=
  { timebase := false, supply := false, measure := false, standby := false, input := false, breakerFailure := false,
    fault := false }

def HoldSet.put (h : HoldSet) (m : HoldReason) (present : Bool) : HoldSet :=
  match m with
  | .supply => { h with supply := present }
  | .interlock => { h with interlock := present }
  | .lane => { h with lane := present }
  | .peerTesting => { h with peerTesting := present }

def HoldSet.has (h : HoldSet) (m : HoldReason) : Bool :=
  match m with
  | .supply => h.supply
  | .interlock => h.interlock
  | .lane => h.lane
  | .peerTesting => h.peerTesting

def HoldSet.isEmpty (h : HoldSet) : Bool := !(h.supply || h.interlock || h.lane || h.peerTesting)

/-! ### Groups -/

/-- A group fires in STARTING and RUNNING (section 3.2). -/
def GroupState.fires : GroupState → Bool
  | .starting => true
  | .running => true
  | _ => false

/-- A gate output of a group: driven for the main arm of its pulse and for that arm's companion (R36). -/
def State.gate (s : State) (g : Group) (arm : Fin 6) : Bool :=
  match (s.group g).pulse with
  | some p => arm == p.arm || arm == companion p.arm
  | none => false

/-- The saturation flag: either group's current-limit flag is set (R60). -/
def State.saturated (s : State) : Bool := (s.group 0).limited || (s.group 1).limited

/-! ### Feeders -/

/-- CLOSED and CLOSING are the acting states of protection (R62). -/
def FeederState.acting : FeederState → Bool
  | .closed => true
  | .closing => true
  | _ => false

/-- The picked-up flag of a feeder: IMAX, DDL or LOWV is picked up (R70). -/
def ProtRec.pickedUp (r : ProtRec) : Bool := r.imaxPicked || r.ddlPicked || r.lowvPicked

/-- The live flag: L(4+f) is FRESH and its value is above Vlive (R102). -/
def State.liveFlag (s : State) (f : Feeder) : Bool :=
  s.laneFresh (lineLane f) && decide ((s.feederSet f).vlive < s.vl f)

/-- A feeder's LANE hold reason is present while L0, Lf or L(4+f) is STALE (R13). -/
def State.laneHold (s : State) (f : Feeder) : Bool :=
  !(s.laneFresh 0 && s.laneFresh (currentLane f) && s.laneFresh (lineLane f))

/-- Any feeder FAILED (R40). -/
def State.anyFailed (s : State) : Bool :=
  (s.feeder 0).state == .failed || (s.feeder 1).state == .failed || (s.feeder 2).state == .failed ||
    (s.feeder 3).state == .failed

/-! ### Inputs (section 10.5) -/

/-- The roles in force; none before the hand-over (R175). -/
def State.role (s : State) (i : Input) : InputRole :=
  match s.cl.settings with
  | some c => c.inputs[i].role
  | none => .none

/-- An input of role DOOR is ACTIVE. -/
def State.doorActive (s : State) : Bool :=
  (List.finRange 12).any fun i => (s.input i).active && s.role i == .door

/-- The interlock condition of a feeder (R180). -/
def State.interlocked (s : State) (f : Feeder) : Bool :=
  (List.finRange 12).any fun i => (s.input i).active && (s.role i == .interlock f || s.role i == .door)

/-- The block condition of a group (R181). -/
def State.inputBlocked (s : State) (g : Group) : Bool :=
  (List.finRange 12).any fun i => (s.input i).active && (s.role i == .groupBlock g || s.role i == .door)

/-- The level of a contact through an input's polarity: NORMAL is active while closed, INVERTED while open
(section 10.1). -/
def activeLevel (inverted closed : Bool) : Bool := xor inverted closed

/-- The twelve change flags, bit n for input Sn (section 7.8). -/
def State.changeFlags (s : State) : Word16 :=
  BitVec.ofNat 16 ((List.finRange 12).map fun i => bit (s.input i).changed i.val).sum

/-! ### Peers -/

def State.peer (s : State) (station : Byte) : Option PeerEntry := s.sc.peers.find? fun e => e.station == station

/-- The body of the last STATUS of a FRESH entry; no rule takes a peer's state from a STALE one (R146). -/
def PeerEntry.shown (e : PeerEntry) : Option StatusBody :=
  match e.health with
  | .fresh => e.contents
  | .stale => none

/-- A peer's last STATUS carries the standby flag (section 7.8). -/
def StatusBody.standbyFlag (b : StatusBody) : Bool := b.flags.getLsbD 0

/-- A peer's last STATUS carries the saturation flag (section 7.8). -/
def StatusBody.saturationFlag (b : StatusBody) : Bool := b.flags.getLsbD 1

/-- An adjacent peer is running when its pinned entry is FRESH and its last STATUS shows G1 or G2 RUNNING (R54). -/
def PeerEntry.peerRunning (e : PeerEntry) : Bool :=
  e.pinned &&
    match e.shown with
    | some b => b.g1 == GroupState.running.code || b.g2 == GroupState.running.code
    | none => false

/-- An adjacent peer shows standby when its pinned entry is FRESH and its last STATUS carries the standby flag (R54). -/
def PeerEntry.peerStandby (e : PeerEntry) : Bool :=
  e.pinned &&
    match e.shown with
    | some b => StatusBody.standbyFlag b
    | none => false

/-- An entry shows the far feeder of a map entry in a state of the given kind: it is FRESH and its contents hold a record
with the far feeder's number, the map entry's section id and such a state (R108, R147). -/
def PeerEntry.shows (e : PeerEntry) (m : FeederSettings) (kind : Byte → Bool) : Bool :=
  match e.shown with
  | some b => b.feeders.any fun r => r.feeder == m.farFeeder && r.sectionId == m.sectionId && kind r.state
  | none => false

/-- The far station's pinned entry shows a feeder's far feeder in a state of the given kind; a far station of 0 has no
entry (R108). -/
def State.farShows (s : State) (f : Feeder) (kind : Byte → Bool) : Bool :=
  let m := s.feederSet f
  m.farStation != 0 &&
    match s.peer m.farStation with
    | some e => e.pinned && e.shows m kind
    | none => false

/-- The conditions of a live-line close: the far station's entry is FRESH and shows the far feeder CLOSED, and the
section allows live-line closing (R108). -/
def State.liveCloseAllowed (s : State) (f : Feeder) : Bool :=
  (s.feederSet f).liveLineAllowed && s.farShows f (· == FeederState.closed.code)

/-- The far feeder is shown in a state other than CLOSED and CLOSING (R154). A code above 7 is no state of section 7.8 and
confirms nothing (log 52). -/
def State.farOut (s : State) (f : Feeder) : Bool :=
  s.farShows f fun c => decide (c.toNat ≤ 7) && c != FeederState.closed.code && c != FeederState.closing.code

/-! ### Alarms (R164) -/

/-- Entries in PENDING or PRESENTED. -/
def Reports.open_ (r : Reports) : List Alarm := r.table.filter fun e => e.state != .accepted

/-- The most urgent priority among them, or 16 when there are none. -/
def Reports.mostUrgent (r : Reports) : Nat := (r.open_.map (·.priority)).foldl min 16

/-- The presentation slot: the entry that is PRESENTED or ACCEPTED. -/
def Reports.slot (r : Reports) : Option Alarm := r.table.find? fun e => e.state != .pending

/-- The entry that is PRESENTED. -/
def Reports.presented (r : Reports) : Option Alarm := r.table.find? fun e => e.state == .presented

/-! ### STATUS (R142, R143) -/

/-- Bit 0 standby, bit 1 saturation, bit 2 overflow, bit 3 config fault (section 7.8). In CONFIG FAULT the standby and
saturation flags are clear (R143). -/
def State.statusFlags (s : State) : Byte :=
  byteOf (bit (s.fc.standby && !s.inConfigFault) 0 + bit (s.saturated && !s.inConfigFault) 1 +
    bit s.rc.overflow 2 + bit s.inConfigFault 3)

/-- The feeder list: in RUNNING one record for each enabled feeder, in CONFIG FAULT all four with section id 0 and the
live flag clear (R102, R143). -/
def State.feederList (s : State) : List FeederInfo :=
  (List.finRange 4).filterMap fun f =>
    if s.inConfigFault then some ⟨byteOf (f.val + 1), 0, (s.feeder f).state.code, 0⟩
    else if s.feederEnabled f then
      some ⟨byteOf (f.val + 1), (s.feederSet f).sectionId, (s.feeder f).state.code, byteOf (bit (s.liveFlag f) 0)⟩
    else none

/-- The presented alarm of a STATUS. -/
def State.presentedInfo (s : State) : Option PresentedInfo :=
  match s.rc.presented with
  | some e =>
    some ⟨e.tag.getD 0, e.kind.code, e.object.classCode, e.object.indexCode, byteOf e.priority⟩
  | none => none

/-- A STATUS body as the records stand, with a reply-to or none (R142; R143 in CONFIG FAULT). -/
def State.statusBody (s : State) (replyTo : Option Byte) : StatusBody :=
  { vb := if s.inConfigFault then 0 else signed16 s.vb,
    load := if s.inConfigFault then 0 else byteOf s.sc.load,
    g1 := if s.inConfigFault then GroupState.blocked.code else (s.group 0).state.code,
    g2 := if s.inConfigFault then GroupState.blocked.code else (s.group 1).state.code,
    flags := s.statusFlags,
    tracker := if s.inConfigFault then Tracker.off.code else s.st.tracker.code,
    feeders := s.feederList,
    pending := byteOf s.rc.open_.length,
    mostUrgent := byteOf s.rc.mostUrgent,
    inputFlags := s.changeFlags,
    reserved := 0,
    presented := s.presentedInfo,
    result := s.rc.lastResult.map fun r => ⟨r.gateway, r.code, r.result.code⟩,
    replyTo }

end Sys2Proof.Machine
end

