-- ==== Sys2Proof/Machine/Alarms.lean ====
section
/-! DEFINITION. The alarm table and the presentation of the Report Controller (Chapter 9), as operations on its record
alone. Where they change the presented alarm they count the changes, each of which originates a STATUS (R165, R139). -/

namespace Sys2Proof.Machine

/-- What a block hands the Report Controller when it raises an alarm (R162). -/
structure Raise where
  kind : AlarmKind
  object : AlarmObject
  priority : Nat
  cause : Option Cause
  detail : Option Int
  deriving DecidableEq, Repr

/-- A raise at the priority of its kind (section 9.2). -/
def AlarmKind.raised (k : AlarmKind) (object : AlarmObject) (cause : Option Cause) (detail : Int) : Raise :=
  { kind := k, object, priority := k.priority, cause, detail := some detail }

/-- An entry that a raise merges into: same kind and object, PENDING or PRESENTED (R162). -/
def Raise.merges (a : Raise) (e : Alarm) : Bool :=
  e.kind == a.kind && e.object == a.object && e.state != .accepted

/-- A merge: the count rises, the last time and the detail are those of the raise (R162). -/
def Raise.mergeInto (a : Raise) (now : Nat) (e : Alarm) : Alarm :=
  { e with count := countUpTo 65535 e.count, last := now, detail := a.detail }

/-- A new entry (R163). -/
def Raise.entry (a : Raise) (now : Nat) : Alarm :=
  { kind := a.kind, object := a.object, priority := a.priority, cause := a.cause, first := now, last := now,
    count := 1, detail := a.detail, state := .pending, tag := none }

/-- The candidates for presentation: PENDING entries whose priority number is below the floor (R165). -/
def Reports.candidate (r : Reports) (e : Alarm) : Bool := e.state == .pending && decide (e.priority < r.floor)

/-- The priority number of the most urgent candidate, if there is one (R165). -/
def Reports.bestCandidate (r : Reports) : Option Nat := ((r.table.filter r.candidate).map (·.priority)).min?

/-- Present the most urgent candidate, the first added among equals, under a new tag (R165). Answers the number of
changes of the presentation. -/
def Reports.present (r : Reports) : Reports × Nat :=
  match r.bestCandidate with
  | none => (r, 0)
  | some best =>
    let tag := r.tag + 1
    ({ r with
        tag,
        table := modFirst (fun e => r.candidate e && e.priority == best)
          (fun e => { e with state := .presented, tag := some tag }) r.table }, 1)

/-- The PRESENTED entry returns to PENDING and loses its tag (R166). -/
def Reports.withdraw (r : Reports) : Reports :=
  { r with
    table := modFirst (fun e => e.state == .presented) (fun e => { e with state := .pending, tag := none }) r.table }

/-- A PRESENTED entry is preempted by a more urgent candidate, or floored (R166). -/
def Reports.displaced (r : Reports) (e : Alarm) : Bool :=
  decide (r.floor ≤ e.priority) ||
    match r.bestCandidate with
    | some best => decide (best < e.priority)
    | none => false

/-- The judgement of the presentation (R165, R166). The end of a presentation and the presentation that follows it are
two changes (log 10). -/
def Reports.judge (r : Reports) : Reports × Nat :=
  match r.slot with
  | none => r.present
  | some e =>
    match e.state with
    | .presented =>
      if r.displaced e then
        let (r', n) := r.withdraw.present
        (r', n + 1)
      else (r, 0)
    | _ => (r, 0)

/-- The priority number of the least urgent PENDING entry (R163). -/
def Reports.leastUrgent (r : Reports) : Option Nat :=
  ((r.table.filter fun e => e.state == .pending).map (·.priority)).max?

/-- A raise that makes a new entry: it is added, or on a full table it evicts the oldest of the least urgent PENDING
entries or is dropped (R163). -/
def Reports.add (r : Reports) (a : Raise) (now : Nat) : Reports × Nat :=
  if r.table.length < 32 then { r with table := r.table ++ [a.entry now] }.judge
  else
    match r.leastUrgent with
    | some worst =>
      if a.priority < worst then
        let kept := dropFirst (fun e : Alarm => e.state == AlarmState.pending && e.priority == worst) r.table
        { r with overflow := true, table := kept ++ [a.entry now] }.judge
      else ({ r with overflow := true }, 0)
    | none => ({ r with overflow := true }, 0)

/-- A raise: merged into the entry it matches, or made a new entry (R162, R163). -/
def Reports.raise (r : Reports) (a : Raise) (now : Nat) : Reports × Nat :=
  if r.table.any a.merges then ({ r with table := modFirst a.merges (a.mergeInto now) r.table }, 0)
  else r.add a now

/-- ACCEPT with a tag (R167): the result, the entry to report if it is taken or reported again, and the number of
changes of the presentation. -/
def Reports.accept (r : Reports) (tag : Byte) : Reports × CommandResult × Option Alarm × Nat :=
  match r.slot with
  | none => (r, .staleTag, none, 0)
  | some e =>
    if e.tag = some tag then
      let taken : Alarm := { e with state := .accepted }
      match e.state with
      | .presented =>
        ({ r with table := modFirst (fun e => e.state == .presented) (fun e => { e with state := .accepted }) r.table },
          .done, some taken, 1)
      | _ => (r, .done, some taken, 0)
    else (r, .staleTag, none, 0)

/-- DONE with a tag (R169): the ACCEPTED entry with that tag is removed and the presentation judged. -/
def Reports.close (r : Reports) (tag : Byte) : Reports × CommandResult × Nat :=
  match r.slot with
  | none => (r, .refusedState, 0)
  | some e =>
    if e.state = .accepted ∧ e.tag = some tag then
      let kept := dropFirst (fun e : Alarm => e.state == AlarmState.accepted) r.table
      let (r', n) := { r with table := kept }.judge
      (r', .done, n)
    else (r, .refusedState, 0)

/-- SET FLOOR (R170). -/
def Reports.setFloor (r : Reports) (arg : Nat) : Reports × Nat := { r with floor := min arg 16 }.judge

end Sys2Proof.Machine
end

