-- ==== Sys2Proof/Machine/Pilot.lean ====
section
/-! DEFINITION. The Pilot Port controller's sending side (sections 7.2 to 7.4 and 7.6): the transmit queues, the frame in
hand, the medium access of a port, the origination of frames, and the raising of alarms, which may originate a STATUS. -/

namespace Sys2Proof.Machine

/-! ### Medium access (section 7.2) -/

/-- The gap of a class of frames in us (R126). -/
def State.gap (s : State) (c : FrameClass) : Nat :=
  match c with
  | .urgent => 40
  | .routine => 80 + s.cl.station.toNat % 16 * 10

/-- A port with a frame of a class in hand enters GAP with a full gap if the segment is idle, and DEFER if it is busy
(R126). -/
def State.access (s : State) (p : Port) (c : FrameClass) (r : PortRec) : PortRec :=
  if s.pins.busy[p] then
    { r with hand := some c, tx := .defer, gapTimer := none, backoffTimer := none, sendEnd := none, line := [] }
  else
    { r with
      hand := some c, tx := .gap, gapTimer := s.after (s.gap c), backoffTimer := none, sendEnd := none, line := [] }

/-- The class of the frame to take in hand: urgent before routine (R126). -/
def PortRec.next (r : PortRec) : Option FrameClass :=
  if !r.urgent.isEmpty then some .urgent else if !r.routine.isEmpty then some .routine else none

/-- The port takes its next frame in hand, or goes IDLE when both queues are empty (R126, R127). -/
def State.takeNext (s : State) (p : Port) (r : PortRec) : PortRec :=
  match r.next with
  | some c => s.access p c r
  | none => { r with hand := none, tx := .idle, gapTimer := none, backoffTimer := none, sendEnd := none, line := [] }

/-- The oldest frame of a class's queue. -/
def PortRec.oldest (r : PortRec) (c : FrameClass) : Option QFrame :=
  match c with
  | .urgent => r.urgent.head?
  | .routine => r.routine.head?

/-- The frame in hand (R126). -/
def PortRec.inHand (r : PortRec) : Option QFrame :=
  match r.hand with
  | some c => r.oldest c
  | none => none

/-- The frame in hand leaves its queue (R127, R128). -/
def PortRec.removeInHand (r : PortRec) : PortRec :=
  match r.hand with
  | some .urgent => { r with urgent := r.urgent.drop 1, attempts := 0 }
  | some .routine => { r with routine := r.routine.drop 1, attempts := 0 }
  | none => r

/-- A frame of the given class is on the line. -/
def PortRec.sending (r : PortRec) (c : FrameClass) : Bool := r.tx == .send && r.hand == some c

/-- An urgent frame has been queued: it goes in hand on an IDLE port and takes the hand from a routine frame that is not
in SEND (R126, R129). -/
def State.urgentTakesHand (s : State) (p : Port) (r : PortRec) : PortRec :=
  match r.tx with
  | .idle => s.access p .urgent r
  | .send => r
  | .defer => if r.hand = some .routine then { r with hand := some .urgent, attempts := 0 } else r
  | .gap =>
    if r.hand = some .routine then
      { r with hand := some .urgent, attempts := 0, gapTimer := s.after (s.gap .urgent) }
    else r
  | .backoff => if r.hand = some .routine then s.access p .urgent { r with attempts := 0 } else r

/-! ### Transmit queues (section 7.3) -/

/-- One more drop on the port (R132). -/
def PortRec.countDrop (r : PortRec) : PortRec := { r with drops := countUpTo 32767 r.drops }

/-- The urgent queue without its oldest forwarded frame that is not in SEND, if it has one. A removed frame that was in
hand loses the hand, and the attempt count returns to 0 (R130). -/
def PortRec.dropForwarded (r : PortRec) : Option PortRec :=
  let onLine := if r.sending .urgent then r.urgent.take 1 else []
  let waiting := if r.sending .urgent then r.urgent.drop 1 else r.urgent
  if waiting.any fun q => !q.own then
    let lost := onLine.isEmpty && r.hand == some .urgent && (waiting.take 1).any fun q => !q.own
    some
      { r with
        urgent := onLine ++ dropFirst (fun q => !q.own) waiting,
        attempts := if lost then 0 else r.attempts }
  else none

/-- An urgent frame reaches a port: the port after it, and whether a frame was dropped (R130). Where the removed frame was
in hand, the next urgent frame has the hand with the gap or backoff that runs (DESIGN CHOICE, log 65). -/
def State.putUrgent (s : State) (p : Port) (q : QFrame) (r : PortRec) : PortRec × Bool :=
  if r.urgent.length < 8 then (s.urgentTakesHand p { r with urgent := r.urgent ++ [q] }, false)
  else if q.own then
    match r.dropForwarded with
    | some r' => (s.urgentTakesHand p { r'.countDrop with urgent := r'.urgent ++ [q] }, true)
    | none => (r.countDrop, true)
  else (r.countDrop, true)

/-- An own STATUS (R131). -/
def QFrame.ownStatus (q : QFrame) : Bool :=
  q.own &&
    match q.frame.payload with
    | .status _ => true
    | _ => false

/-- An own STATUS that takes the place of a waiting one: scope NETWORK if either was, the waiting one's reply-to if the
new one has none, and its restart mark (R131, R187). -/
def QFrame.replacing (new old : QFrame) : QFrame :=
  { new with
    restart := new.restart || old.restart,
    frame :=
      { header :=
          { new.frame.header with
            scope := if old.frame.header.scope = .network then .network else new.frame.header.scope },
        payload :=
          match new.frame.payload, old.frame.payload with
          | .status b, .status o => .status { b with replyTo := b.replyTo <|> o.replyTo }
          | other, _ => other } }

/-- A routine frame reaches a port: the port after it, and whether it was dropped (R131). Of two own STATUS that wait, the
older is replaced (DESIGN CHOICE, log 66). -/
def State.putRoutine (s : State) (p : Port) (q : QFrame) (r : PortRec) : PortRec × Bool :=
  let onLine := if r.sending .routine then r.routine.take 1 else []
  let waiting := if r.sending .routine then r.routine.drop 1 else r.routine
  if q.ownStatus && waiting.any QFrame.ownStatus then
    ({ r with routine := onLine ++ modFirst QFrame.ownStatus q.replacing waiting }, false)
  else if r.routine.length < 16 then
    let r' := { r with routine := r.routine ++ [q] }
    (if r.tx = .idle then s.access p .routine r' else r', false)
  else (r.countDrop, true)

/-- PILOT CONGESTION for a port, with its drop count as detail (R132). -/
def congestion (p : Port) (drops : Nat) : Raise := AlarmKind.pilotCongestion.raised (.port p) none drops

/-- A raise in the alarm table, and the number of changes of the presented alarm it makes (R162, R165). -/
def State.tabled (s : State) (a : Raise) : State × Nat :=
  ({ s with rc := (s.rc.raise a s.time).1 }, (s.rc.raise a s.time).2)

/-- A frame reaches the queues of a port, and a drop raises PILOT CONGESTION; a port in OFF takes no copy (R130, R131,
R132). Answers the number of changes of the presented alarm. -/
def State.enqueue (s : State) (p : Port) (q : QFrame) : State × Nat :=
  if (s.port p).state = .off then (s, 0)
  else
    let (r, dropped) :=
      match q.frame.payload.frameClass with
      | .urgent => s.putUrgent p q (s.port p)
      | .routine => s.putRoutine p q (s.port p)
    let s' := s.modPort p fun _ => r
    if dropped then s'.tabled (congestion p r.drops) else (s', 0)

/-- A frame reaches each named port, A then B. What its drops change of the presented alarm is announced after both
(R139, log 56). -/
def State.enqueueOn (s : State) (named : Port → Bool) (q : QFrame) : State × Nat :=
  let a := if named 0 then s.enqueue 0 q else (s, 0)
  let b := if named 1 then a.1.enqueue 1 q else (a.1, 0)
  (b.1, a.2 + b.2)

/-! ### Originating frames (section 7.4) -/

/-- A pair added to the seen list as the newest, the oldest removed from a list of 32; a pair already there is not added
twice (R136, log 40). -/
def addSeen (pair : Byte × Byte) (seen : List (Byte × Byte)) : List (Byte × Byte) :=
  if pair ∈ seen then seen else (if seen.length < 32 then seen else seen.drop 1) ++ [pair]

/-- The header of an origination (R133). -/
def State.ownHeader (s : State) (scope : Scope) : Header :=
  { scope, loopMark := false, hops := 7, origin := s.cl.station, seq := s.pp.seq }

/-- An origination: one sequence number, one pair in the seen list for scope NETWORK, and a copy on each named port
(R133). `announce` sends the STATUS frames of so many changes of the presented alarm. -/
def State.originateWith (announce : Nat → State → State) (payload : Payload) (scope : Scope) (named : Port → Bool)
    (restart : Bool) (s : State) : State :=
  let q : QFrame := { frame := { header := s.ownHeader scope, payload }, own := true, queuedAt := s.time, restart }
  let seen := if scope = .network then addSeen (s.cl.station, s.pp.seq) s.pp.seen else s.pp.seen
  let u := { s with pp := { s.pp with seq := s.pp.seq + 1, seen } }.enqueueOn named q
  announce u.2 u.1

/-! ### STATUS frames and alarms (sections 7.6 and 9.1) -/

/-- The scope of a STATUS: NETWORK while there is a listener (R140); always SEGMENT in CONFIG FAULT (R143). -/
def State.statusScope (s : State) : Scope :=
  if s.inConfigFault || s.pp.listeners.isEmpty then .segment else .network

/-- A STATUS on a change: originated for both ports, with no reply-to, once the STATUS timer has been started (R139,
R124, log 7). -/
def State.statusWith (announce : Nat → State → State) (s : State) : State :=
  if s.pp.statusTimer.isNone then s
  else s.originateWith announce (.status (s.statusBody none)) s.statusScope (fun _ => true) false

/-- So many times in a row. -/
def times : Nat → (State → State) → State → State
  | 0, _, s => s
  | n + 1, g, s => times n g (g s)

/-- One STATUS for each of so many changes of the presented alarm (R165, R139). A STATUS may be dropped and raise PILOT
CONGESTION, which changes the presented alarm in turn, at most two deep, so the depth given below is never used up
(log 36). -/
def announceWithin : Nat → Nat → State → State
  | 0, _, s => s
  | d + 1, n, s => times n (State.statusWith (announceWithin d)) s

/-- So many changes of the presented alarm are handed to the Pilot Port controller (R165). -/
def State.announce (n : Nat) (s : State) : State := announceWithin 4 n s

/-- A block raises an alarm (R162). -/
def State.raise (s : State) (a : Raise) : State := State.announce (s.tabled a).2 (s.tabled a).1

/-- A block raises an alarm at the priority of its kind (section 9.2). -/
def State.alarm (s : State) (k : AlarmKind) (object : AlarmObject) (cause : Option Cause) (detail : Int) : State :=
  s.raise (k.raised object cause detail)

/-- An origination by a block (R133). -/
def State.originate (s : State) (payload : Payload) (scope : Scope) (named : Port → Bool) : State :=
  s.originateWith State.announce payload scope named false

/-- A STATUS at once (R139). -/
def State.status (s : State) : State := s.statusWith State.announce

end Sys2Proof.Machine
end

