-- ==== Sys2Proof/Machine/LoadSharing.lean ====
section
/-! DEFINITION. Load sharing in the Section Coordinator (section 8.6): the load index, the comparison with the peers, the
dwell and the decay of the trim. -/

namespace Sys2Proof.Machine

/-- The last STATUS bodies of the qualifying peers: pinned, FRESH, without the standby flag (R158). -/
def State.qualifying (s : State) : List StatusBody :=
  s.sc.peers.filterMap fun e =>
    match e.shown with
    | some b => if e.pinned && !StatusBody.standbyFlag b then some b else none
    | none => none

/-- The peer mean (R158). -/
def peerMean (bodies : List StatusBody) : Int :=
  ((bodies.map fun b => b.load.toNat).sum / bodies.length : Nat)

/-- The comparison of the own load index with the peer mean (R158). -/
def loadCompared (own mean bband : Int) : LoadCondition :=
  if bband < own - mean then .high else if bband < mean - own then .low else .none

/-- One advance of the load-sharing register (R159). -/
def advanceLoad (w : Word16) : Word16 :=
  (w <<< 1) ||| BitVec.ofNat 16 (bit (w.getLsbD 15 ^^ w.getLsbD 13 ^^ w.getLsbD 12 ^^ w.getLsbD 10) 0)

/-- A dwell starts: the register is advanced once and the dwell timer runs for Tdw + floor(register * Tdw / 65536) ms
(R159). -/
def State.startDwell (s : State) : State :=
  let register := advanceLoad s.sc.register
  let tdw := s.rect.tdw
  { s with
    sc := { s.sc with register, dwellTimer := s.after ((tdw + register.toNat * tdw / 65536) * msec) } }

/-- The outcome of a judgement with at least one qualifying peer, which also stops the decay timer (R158). -/
def State.setCondition (s : State) (c : LoadCondition) : State :=
  let s := { s with sc := { s.sc with decayTimer := none } }
  if c = s.sc.condition then s
  else
    match c with
    | .none => { s with sc := { s.sc with condition := .none, dwellTimer := none } }
    | .high => { s with sc := { s.sc with condition := .high } }.startDwell
    | .low => { s with sc := { s.sc with condition := .low } }.startDwell

/-- A judgement with no qualifying peer: the condition is NONE, the dwell stops, and a trim other than 0 decays (R158,
R160). -/
def State.loseCondition (s : State) : State :=
  { s with
    sc :=
      { s.sc with
        condition := .none, dwellTimer := none,
        decayTimer :=
          if s.sc.trim = 0 then s.sc.decayTimer
          else
            match s.sc.decayTimer with
            | some d => some d
            | none => s.after (1000 * msec) } }

/-- The judgement of the load conditions (R158). -/
def State.judgeLoad (s : State) : State :=
  if s.fc.standby then
    { s with sc := { s.sc with condition := .none, dwellTimer := none, decayTimer := none } }
  else if s.qualifying.isEmpty then s.loseCondition
  else s.setCondition (loadCompared s.sc.load (peerMean s.qualifying) s.rect.bband)

/-- The load index of a bus current (R157). -/
def loadIndex (ibus irated : Int) : Nat := (clampInt 0 250 (floorDiv (max ibus 0 * 100) irated)).toNat

/-- The load index is formed anew at each recomputation of Ibus, and a change of it judges the conditions; before the
hand-over it stays 0 (R157). -/
def State.formLoad (s : State) : State :=
  if s.handedOver then
    let load := loadIndex s.li.ibus s.rect.irated
    if load = s.sc.load then s else { s with sc := { s.sc with load } }.judgeLoad
  else s

/-- The step of the trim is withheld: this station is saturated and so is every qualifying peer (R159). -/
def State.stepWithheld (s : State) : Bool := s.saturated && s.qualifying.all StatusBody.saturationFlag

/-- The trim one step on, by the condition (R159). -/
def State.steppedTrim (s : State) : Int :=
  let r := s.rect
  match s.sc.condition with
  | .high => clampInt (-r.tmax) r.tmax (s.sc.trim - r.tstep)
  | .low => clampInt (-r.tmax) r.tmax (s.sc.trim + r.tstep)
  | .none => s.sc.trim

/-- The dwell timer expires (R159): a step of the trim unless it is withheld, and a new dwell. -/
def State.dwellEnds (s : State) : State :=
  { s with sc := { s.sc with trim := if s.stepWithheld then s.sc.trim else s.steppedTrim } }.startDwell

/-- T moved toward 0 by Tstep, or by less if it lies nearer to 0 (R160). -/
def decayed (trim step : Int) : Int := if 0 < trim then max 0 (trim - step) else min 0 (trim + step)

/-- The decay timer expires (R160). -/
def State.decayStep (s : State) : State :=
  let trim := decayed s.sc.trim s.rect.tstep
  { s with sc := { s.sc with trim, decayTimer := if trim = 0 then none else s.after (1000 * msec) } }

end Sys2Proof.Machine
end

