-- ==== Sys2Proof/Machine/Firing.lean ====
section
/-! DEFINITION. The Firing Controller (Chapter 3): the tracked phase as it is read, block causes and group states, the
regulation step, the firing, group overcurrent and standby. -/

namespace Sys2Proof.Machine

/-! ### The tracked phase (R21, R23) -/

/-- One supply cycle in fractional units: 3600 units of 65536. -/
def cycle : Int := 235929600

/-- The phase in fractional units as read now: that of the last pacing step, carried on with the phase step in use since
then (R23, log 17), or from the entry into SEEK until the first pacing step (log 50); in OFF the phase stands
(log 38). -/
def State.readPhase (s : State) : Int :=
  match s.st.tracker with
  | .off => s.st.phase
  | _ => (s.st.phase + s.st.stepInUse * ((s.clock : Int) - s.st.lastStep) / 100) % cycle

/-- phi, the tracked phase in units of 0.1 degree. -/
def State.phi (s : State) : Int := s.readPhase / 65536

/-- The lead of an angle against a phase (R39, R51). -/
def lead (theta phi : Int) : Int := (theta - phi) % 3600

/-- The angle has been reached: the phase stands at it, or it lies up to 60 degrees behind (R43, R44). -/
def reached (theta phi : Int) : Bool := lead theta phi == 0 || decide (3000 ≤ lead theta phi)

/-! ### Block causes and group states (section 3.2) -/

/-- Entry into BLOCKED from STARTING or RUNNING (R38). -/
def State.blockGroup (g : Group) (s : State) : State :=
  let t := s.modGroup g fun r => { r with state := .blocked, pulse := none, armed := none, limited := false }
  let iacc := if (t.group (other g)).state = .running then t.fc.iacc else 0
  { t with fc := { t.fc with iacc } }.status

/-- The first firing of a start: the arm whose angle lies 1..600 ahead (R39). -/
def firstArmed (g : Group) (alphaMax phi : Int) : Option Armed :=
  ((List.finRange 6).map fun k => Armed.mk k ((naturalAngle g k + alphaMax) % 3600) alphaMax).find?
    fun a => decide (1 ≤ lead a.theta phi) && decide (lead a.theta phi ≤ 600)

/-- Entry into STARTING (R39). -/
def State.startGroup (g : Group) (s : State) : State :=
  (s.modGroup g fun r =>
    { r with
      state := .starting, prevAlpha := s.rect.alphaMax, armed := firstArmed g s.rect.alphaMax s.phi }).status

/-- A member of a group's block-cause set is added or removed, and the group state follows (R37). A group that is OFF
keeps no causes (R35). -/
def State.putCause (m : BlockCause) (present : Bool) (g : Group) (s : State) : State :=
  let r := s.group g
  if r.state = .off ∨ r.causes.has m = present then s
  else
    let causes := r.causes.put m present
    let t := s.modGroup g fun r => { r with causes }
    if r.state.fires then t.blockGroup g
    else if causes.isEmpty then t.startGroup g
    else t

/-- A member is added to or removed from the sets of both groups. -/
def State.putCauses (s : State) (m : BlockCause) (present : Bool) : State := forGroups (State.putCause m present) s

/-! ### The regulation step (section 3.4) -/

/-- Stage 1: the voltage target Vt (R46). FC holds a Vset whenever a group fires (R35). -/
def State.voltageTarget (s : State) : Int :=
  let r := s.rect
  clampInt r.vmin r.vmax (s.fc.vset.getD r.vset - max s.li.ibus 0 * r.droop / 100 + s.sc.trim)

/-- Stage 2: Vd0 of a given Vamp (R47, R33). -/
def vd0Of (vamp : Int) : Int := vamp * 1382 / 1024

/-- IGg, the value of L(8+g). -/
def State.groupCurrent (s : State) (g : Group) : Int := (s.lane (groupLane g)).value

/-- IGg is above Ilim of the group (R47, R49). -/
def State.overLimit (s : State) (g : Group) : Bool := decide (s.rect.ilim[g] < s.groupCurrent g)

/-- Vcmd before its clamp: Vt + Pterm + floor(Iacc / 256) (R47). -/
def State.rawCommand (s : State) (iacc : Int) : Int :=
  s.voltageTarget + (s.voltageTarget - s.vb) * s.rect.kp / 256 + iacc / 256

/-- The integrator update is skipped (R47). -/
def State.updateSkipped (s : State) (g : Group) : Bool :=
  let vd0 := vd0Of s.st.vamp
  let error := s.voltageTarget - s.vb
  let raw := s.rawCommand s.fc.iacc
  s.overLimit g || (s.group (other g)).limited ||
    (decide (vd0 < raw) && decide (0 < error)) || (decide (raw < 0) && decide (error < 0)) ||
    (s.group g).state == .starting

/-- Iacc after stage 3 (R47). -/
def State.newIacc (s : State) (g : Group) : Int :=
  if s.updateSkipped g then s.fc.iacc
  else clampInt (-256000) 256000 (s.fc.iacc + (s.voltageTarget - s.vb) * s.rect.ki)

/-- Vcmd of the step (R47). -/
def State.command (s : State) (g : Group) : Int := clampInt 0 (vd0Of s.st.vamp) (s.rawCommand (s.newIacc g))

/-- Stages 4 and 5: the angle of the commanded voltage (R48). -/
def State.regulated (s : State) (g : Group) : Int :=
  alphaReg (floorDiv (s.command g * 4096) (vd0Of s.st.vamp))

/-- Stage 6, its first half: the angle after the current limit (R49). -/
def State.limitedAlpha (s : State) (g : Group) : Int :=
  if s.overLimit g then max (s.regulated g) ((s.group g).prevAlpha + 11) else s.regulated g

/-- The state of the group after the judgement of stage 6 (R50). -/
def State.stepState (s : State) (g : Group) : GroupState :=
  let r := s.group g
  if r.state = .starting ∧ (r.prevAlpha - 2 ≤ s.limitedAlpha g ∨ s.voltageTarget - 100 ≤ s.vb) then .running
  else r.state

/-- alpha_g: the fall limit of the state and the clamp (R50). -/
def State.stepAlpha (s : State) (g : Group) : Int :=
  let fall : Int := if s.stepState g = .starting then 2 else 23
  clampInt s.rect.alphaMin s.rect.alphaMax (max (s.limitedAlpha g) ((s.group g).prevAlpha - fall))

/-- The regulation step of a group at the firing of an arm, which arms the group's next arm (R45 to R51). -/
def State.regulate (g : Group) (arm : Fin 6) (s : State) : State :=
  let alpha := s.stepAlpha g
  let next := nextArm arm
  let state := s.stepState g
  let t :=
    { s with fc := { s.fc with iacc := s.newIacc g } }.modGroup g fun r =>
      { r with
        state, limited := s.overLimit g,
        armed := some { arm := next, theta := (naturalAngle g next + alpha) % 3600, alpha } }
  if state = (s.group g).state then t else t.status

/-- The firing of an armed arm: its pulse begins and the step is taken (R43, R36). -/
def State.fireArmed (g : Group) (a : Armed) (s : State) : State :=
  (s.modGroup g fun r =>
    { r with
      pulse := some { arm := a.arm, endPhase := (s.phi + s.rect.pulseWidth) % 3600 },
      prevAlpha := a.alpha, armed := none }).regulate g a.arm

/-- Fire the armed firing of a group, and each firing that the step before it leaves late (R43, R51). The depth bounds
the chain; a firing left late by it is made at the next FIRING (log 35). -/
def fireWithin : Nat → Group → State → State
  | 0, _, s => s
  | n + 1, g, s =>
    match (s.group g).armed with
    | none => s
    | some a =>
      let t := s.fireArmed g a
      match (t.group g).armed with
      | some b => if 3000 ≤ lead b.theta t.phi then fireWithin n g t else t
      | none => t

/-- The firing event of a group whose armed angle the phase has reached (R43). -/
def State.fire (g : Group) (s : State) : State := fireWithin 4 g s

/-- The pulse of a group ends and its outputs are released (R36). -/
def State.endPulse (g : Group) (s : State) : State := s.modGroup g fun r => { r with pulse := none }

/-- The judgement of one group's pulse and armed firing against a changed phase (R44). -/
def State.judgePhase (g : Group) (s : State) : State :=
  let s :=
    match (s.group g).pulse with
    | some p => if 3000 ≤ lead p.endPhase s.phi then s.endPulse g else s
    | none => s
  match (s.group g).armed with
  | some a => if 3000 ≤ lead a.theta s.phi then s.fire g else s
  | none => s

/-- The Supply Timebase hands over a phase change (R44). -/
def State.phaseChanged (s : State) : State := forGroups State.judgePhase s

/-! ### Group overcurrent (R41, R42) -/

/-- A valid sample notice of a group's current lane while it is FRESH (R41). -/
def State.judgeOvercurrent (g : Group) (s : State) : State :=
  let r := s.group g
  if r.state = .off ∨ r.causes.fault then s
  else if s.groupCurrent g < s.rect.igfault then s.modGroup g fun r => { r with overRun := 0 }
  else if r.overRun = 0 then s.modGroup g fun r => { r with overRun := 1 }
  else
    ((s.modGroup g fun r => { r with overRun := 0 }).putCause .fault true g).alarm .groupFault (.group g) none
      (s.groupCurrent g)

/-- RESET GROUP (R42). -/
def State.resetFault (s : State) (g : Group) : State × CommandResult :=
  if (s.group g).causes.fault then (s.putCause .fault false g, .done) else (s, .refusedState)

/-- SET VOLTAGE (R52). -/
def State.setVset (s : State) (arg : Int) : State :=
  { s with fc := { s.fc with vset := some (clampInt s.rect.vmin s.rect.vmax arg) } }

/-! ### Standby (section 3.7) -/

/-- A feeder in one of the states that keep the station awake (R54). -/
def FeederState.keepsAwake : FeederState → Bool
  | .closing => true
  | .tripping => true
  | .testing => true
  | .tripped => true
  | .failed => true
  | _ => false

/-- The four conditions of STANDBY (R54). -/
def State.standbyAllowed (s : State) : Bool :=
  (List.finRange 4).all (fun f => !(s.feeder f).state.keepsAwake) &&
    s.rc.table.all (fun e => decide (3 < e.priority)) &&
    s.sc.peers.any (fun e => e.peerRunning && !e.peerStandby) &&
    s.sc.peers.all (fun e => !e.peerStandby)

/-- Entry into standby (R55). -/
def State.enterStandby (s : State) : State :=
  let s := { s with fc := { s.fc with standby := true, entryTime := some s.time } }.putCauses .standby true
  ((s.alarm .standby .station none 0).status).judgeLoad

/-- The command STANDBY (R54). -/
def State.takeStandby (s : State) : State × CommandResult :=
  if s.fc.standby then (s, .refusedState)
  else if s.standbyAllowed then (s.enterStandby, .done)
  else (s, .notTaken)

/-- The time spent in standby in seconds (R58). -/
def State.standbySeconds (s : State) : Nat :=
  match s.fc.entryTime with
  | some t => min 32767 (elapsed t s.time / 1000)
  | none => 0

/-- The station wakes, if it is in standby (R58). -/
def State.wake (s : State) (cause : Cause) : State :=
  if s.fc.standby then
    let t :=
      { s with fc := { s.fc with standby := false, entryTime := none, wakeTimer := none } }.putCauses .standby false
    ((t.alarm .standby .station (some cause) s.standbySeconds).status).judgeLoad
  else s

/-- A valid sample notice of L0 while it is FRESH (R56). -/
def State.watchBusbar (s : State) : State :=
  if s.fc.standby then
    if s.rect.vwake ≤ s.vb then { s with fc := { s.fc with wakeTimer := none } }
    else
      match s.fc.wakeTimer with
      | some _ => s
      | none => { s with fc := { s.fc with wakeTimer := s.after (20 * msec) } }
  else s

/-- The wake conditions of a change of a pinned entry (R57; NO RUNNING PEER is judged first). -/
def State.judgeWake (s : State) : State :=
  if s.sc.peers.any PeerEntry.peerRunning then
    if s.sc.peers.any fun e => e.peerStandby && decide (e.station.toNat < s.cl.station.toNat) then
      s.wake .peerStandby
    else s
  else s.wake .noRunningPeer

end Sys2Proof.Machine
end

