-- ==== Sys2Proof/Machine/Intertrip.lean ====
section
/-! DEFINITION. What the Section Coordinator sends toward the far end of a section: its choice of scope and ports, the
TEST NOTICE frames and the intertrip sender (sections 8.3 and 8.4). -/

namespace Sys2Proof.Machine

/-- The port on which the far station of a feeder is FRESH and directly heard, if that port is not OFF (R151). -/
def State.directPort (s : State) (f : Feeder) : Option Port :=
  match s.peer (s.feederSet f).farStation with
  | some e =>
    match e.health, e.reach with
    | .fresh, some (.direct p) => if e.pinned ∧ (s.port p).state ≠ .off then some p else none
    | _, _ => none
  | none => none

/-- A frame toward the far station of a feeder: on the direct port at SEGMENT scope, or else on both ports at NETWORK
scope (R151). -/
def State.sendToward (s : State) (f : Feeder) (payload : Payload) : State :=
  match s.directPort f with
  | some p => s.originate payload .segment (· == p)
  | none => s.originate payload .network fun _ => true

/-- The number of a feeder, 1 to 4. -/
def feederNumber (f : Feeder) : Byte := byteOf (f.val + 1)

/-- A TEST NOTICE of a feeder: phase 1 START, 2 END (R151). -/
def State.sendNotice (s : State) (f : Feeder) (phase : Byte) : State :=
  s.sendToward f (.testNotice { sectionId := (s.feederSet f).sectionId, feeder := feederNumber f, phase })

/-! ### The intertrip sender (section 8.4) -/

/-- The age of a sequence at its origination (R153). -/
def State.intertripAge (s : State) (f : Feeder) : Nat :=
  match (s.sender f).tripTime with
  | some t => min 65535 (elapsed t s.time)
  | none => 0

/-- The frame of a repeat index (R153). -/
def State.intertripBody (s : State) (f : Feeder) (index : Nat) : IntertripBody :=
  let m := s.feederSet f
  { target := m.farStation, feeder := m.farFeeder, sectionId := m.sectionId,
    cause := ((s.sender f).cause.map Cause.code).getD 0, index := byteOf index,
    age := BitVec.ofNat 16 (s.intertripAge f) }

/-- The frame of a repeat index is originated toward the far station (R153). -/
def State.sendIntertrip (s : State) (f : Feeder) (index : Nat) : State :=
  s.sendToward f (.intertrip (s.intertripBody f index))

/-- In WATCHING a record goes IDLE when its confirmation is no longer WAITING (R153). -/
def SenderRec.settle (r : SenderRec) : SenderRec :=
  match r.state, r.confirmation with
  | .watching, some .waiting => r
  | .watching, _ => { r with state := .idle }
  | _, _ => r

/-- The judgement of the confirmation (R154). -/
def State.judgeConfirmation (f : Feeder) (s : State) : State :=
  if (s.sender f).confirmation = some .waiting ∧ s.farOut f then
    s.modSender f fun r => SenderRec.settle { r with confirmation := some .confirmed, confirmTimer := none }
  else s

/-- An intertrip is started for a feeder (R152). -/
def State.startIntertrip (s : State) (f : Feeder) (cause : Cause) : State :=
  if (s.feederSet f).farStation = 0 then s
  else
    let s := s.modSender f fun r => { r with cause := some cause, tripTime := some s.time }
    let s := s.sendIntertrip f 0
    (s.modSender f fun r =>
      { r with
        nextIndex := 1, repeatTimer := s.after (20 * msec), state := .sending, confirmation := some .waiting,
        confirmTimer := s.after (500 * msec) }).judgeConfirmation f

/-- The repeat timer expires in SENDING (R153). -/
def State.repeatIntertrip (s : State) (f : Feeder) : State :=
  let s := s.sendIntertrip f (s.sender f).nextIndex
  s.modSender f fun r =>
    if 10 ≤ r.nextIndex + 1 then
      SenderRec.settle { r with nextIndex := r.nextIndex + 1, repeatTimer := none, state := .watching }
    else { r with nextIndex := r.nextIndex + 1, repeatTimer := s.after (20 * msec) }

/-- The confirm timer expires (R154). -/
def State.confirmExpires (s : State) (f : Feeder) : State :=
  match (s.sender f).confirmation with
  | some .waiting =>
    let cause := (s.sender f).cause
    (s.modSender f fun r =>
        SenderRec.settle { r with confirmation := some .unconfirmed, confirmTimer := none }).alarm
      .intertripUnconfirmed (.feeder f) cause (s.feederSet f).farStation.toNat
  | _ => s.modSender f fun r => { r with confirmTimer := none }

end Sys2Proof.Machine
end

