-- ==== Sys2Proof/Machine/Protection.lean ====
section
/-! DEFINITION. What Feeder Protection keeps for the Feeder Sequencer: its copy of the feeder state, the peak window and
the last-trip record (R62, section 4.7). -/

namespace Sys2Proof.Machine

/-- The states whose entry re-arms LOWV (R62, R69). -/
def FeederState.rearmsLowv : FeederState → Bool
  | .tripped => true
  | .opened => true
  | .lockout => true
  | _ => false

/-- A change of the copy of a feeder's state (R62). -/
def ProtRec.taking (r : ProtRec) (st : FeederState) : ProtRec :=
  { r with
    copy := st,
    lowvTimer := if st = .closed then r.lowvTimer else none,
    lowvPicked := r.lowvPicked && !st.rearmsLowv }

/-- The Feeder Sequencer hands over a feeder's state (R62). -/
def State.setCopy (s : State) (f : Feeder) (st : FeederState) : State :=
  if (s.prot f).copy = st then s else s.modProt f fun r => r.taking st

/-- The entries of a peak window that arrived within the last 20 ms (R75). -/
def recent (now : Nat) (w : List (Nat × Int)) : List (Nat × Int) := w.filter fun e => decide (now ≤ e.1 + 20 * msec)

/-- The peak current of a record written now: 0 when no entry is recent (R75). -/
def State.peakCurrent (s : State) (f : Feeder) : Int :=
  ((recent s.clock (s.prot f).window).map (·.2)).foldl max 0

/-- The last-trip record is written (R76). -/
def State.writeRecord (s : State) (f : Feeder) (cause : Cause) (observed : Bool) (origin : Option Byte) : State :=
  s.modProt f fun r =>
    { r with
      record :=
        some
          { cause, observed, time := s.time, peak := s.peakCurrent f,
            deltaI := if cause = .ddl then some r.ddlPeak else none, vl := s.vl f, origin, repeats := 0 } }

/-- A note of an intertrip that did not trip (R77). -/
def State.noteIntertrip (s : State) (f : Feeder) : State :=
  s.modProt f fun r =>
    match r.record with
    | some t => { r with record := some { t with repeats := countUpTo 255 t.repeats } }
    | none => r

/-- FEEDER TRIP, with the record's cause and peak current (R77). -/
def State.raiseTrip (s : State) (f : Feeder) : State :=
  match (s.prot f).record with
  | some t => s.alarm .feederTrip (.feeder f) (some t.cause) t.peak
  | none => s

end Sys2Proof.Machine
end

