-- ==== Sys2Proof/Machine/Feeders.lean ====
section
/-! DEFINITION. The Feeder Sequencer (Chapters 5 and 6): trips, closes, contact edges, hold reasons, reclosing and the
line test, and its answers to the requests of the other blocks. -/

namespace Sys2Proof.Machine

/-! ### Shared steps -/

/-- A new feeder state goes to Feeder Protection's copy (R102). -/
def State.setState (s : State) (f : Feeder) (st : FeederState) : State :=
  (s.modFeeder f fun r => { r with state := st }).setCopy f st

/-- The current condition of a trip: Lf is STALE, or its value is below Ioff in magnitude (R85). -/
def State.currentOut (s : State) (f : Feeder) : Bool :=
  !s.laneFresh (currentLane f) || decide (magnitude (s.current f) < (s.feederSet f).ioff)

/-- The dead-time timer of a feeder record: it runs in TRIPPED with role LEADER while no hold reason is present, and it
is started when that comes about (R105). -/
def FeederRec.deadTime (r : FeederRec) (start : Timer) : Timer :=
  if r.state = .tripped ∧ r.role = some .leader ∧ r.holds.isEmpty then
    match r.dead with
    | some d => some d
    | none => start
  else none

/-- The dead time is judged anew (R105). -/
def State.judgeDead (s : State) (f : Feeder) : State :=
  s.modFeeder f fun r => { r with dead := r.deadTime (s.after ((s.feederSet f).tdead * msec)) }

/-- Entry into LOCKOUT (R98). -/
def State.enterLockout (s : State) (f : Feeder) : State :=
  let s :=
    (s.modFeeder f fun r =>
      { r with
        dead := none, follow := none, live := .stopped, reclaim := none, role := none, op := .none,
        after := none }).setState f .lockout
  (s.alarm .lockout (.feeder f) (s.feeder f).tripCause (s.feeder f).attempts).status

/-- Entry into OPEN, with the reclose ended (R86, R92, R97, R101, R119). -/
def State.enterOpen (s : State) (f : Feeder) (attempts : Nat) : State :=
  let s :=
    s.modFeeder f fun r =>
      { r with
        dead := none, follow := none, live := .stopped, role := none, op := .none, after := none, tripCause := none,
        attempts }
  if (s.feeder f).state = .opened then s else (s.setState f .opened).status

/-- The role a feeder takes in TRIPPED: a follower whose section does not allow live-line closing leads at once (R109). -/
def State.trippedRole (s : State) (f : Feeder) (role : Role) : Role :=
  if role = .follower ∧ !(s.feederSet f).liveLineAllowed then .leader else role

/-- A feeder is put into TRIPPED with a role and its timer started (R105, R109); the hand-over to the Pilot Port
controller is the caller's. -/
def State.intoTripped (s : State) (f : Feeder) (role : Role) : State :=
  let role := s.trippedRole f role
  let s :=
    (s.modFeeder f fun r =>
      { r with
        role := some role, op := .none, after := none, live := .stopped, dead := none,
        follow := if role = .follower then s.after ((s.feederSet f).tfollow * msec) else none }).setState f .tripped
  s.judgeDead f

/-- A feeder in TRIPPED with reclose blocked goes on to LOCKOUT (R99). -/
def State.blockTripped (s : State) (f : Feeder) : State :=
  if (s.feeder f).state = .tripped ∧ (s.feeder f).blocked then s.enterLockout f else s

/-- Entry into TRIPPED (R86, R92, R99, R109, R118, R123). Setting a feeder to the state it holds is no change (log 32). -/
def State.enterTripped (s : State) (f : Feeder) (role : Role) : State :=
  let changed := (s.feeder f).state ≠ .tripped
  let s := s.intoTripped f role
  (if changed then s.status else s).blockTripped f

/-! ### Trips (section 5.3) -/

/-- The after-state of a trip (R86). -/
def FeederRec.afterTrip (r : FeederRec) (nmax : Nat) (cause : Cause) : AfterState :=
  match cause with
  | .lane => .tripped
  | .control => .opened
  | _ => if nmax ≤ r.attempts ∨ r.blocked then .lockout else .tripped

/-- The reclose role of a trip (R86). -/
def tripRole (cause : Cause) : Option Role :=
  match cause with
  | .remote => some .follower
  | .control => none
  | _ => some .leader

/-- The causes whose trip starts an intertrip (R84). -/
def Cause.intertrips : Cause → Bool
  | .imax => true
  | .ddl => true
  | .lowv => true
  | _ => false

/-- The steps of a trip start on the feeder record (R83). -/
def State.driveTrip (s : State) (f : Feeder) (cause : Cause) : State :=
  let m := s.feederSet f
  s.modFeeder f fun r =>
    { r with
      tclose := none, reclaim := none, closeCoil := false, tripCoil := true, op := .trip, tripCause := some cause,
      after := some (r.afterTrip m.nmax cause), role := tripRole cause, topen := s.after (m.topen * msec) }

/-- A trip start and its hand-overs, in their order (R83, R84). -/
def State.tripStart (s : State) (f : Feeder) (cause : Cause) (origin : Option Byte) : State :=
  let s := (s.driveTrip f cause).setState f .tripping
  let s := (s.writeRecord f cause false origin).raiseTrip f
  let s := if cause.intertrips then s.startIntertrip f cause else s
  (s.wake .feederTrip).status

/-- A trip request finds the feeder CLOSED or CLOSING, or is passed over (R83, section 5.8). -/
def State.requestTrip (s : State) (f : Feeder) (cause : Cause) : State :=
  if (s.feeder f).state.acting then s.tripStart f cause none else s

/-- The LANE decision of Feeder Protection (R10): for an enabled feeder CLOSED or CLOSING whose current lane is STALE,
while the station runs (R61). -/
def State.laneDecision (s : State) (f : Feeder) : State :=
  if s.running && s.feederEnabled f && !s.laneFresh (currentLane f) && (s.prot f).copy.acting then
    s.requestTrip f .lane
  else s

/-- The trip is complete: the contact reads open and the current condition is met (R85). -/
def State.tripComplete (s : State) (f : Feeder) : Bool := !(s.feeder f).contact && s.currentOut f

/-- A feeder enters its after-state (R86). -/
def State.enterAfter (s : State) (f : Feeder) : State :=
  let r := s.feeder f
  match r.after with
  | some .lockout => s.enterLockout f
  | some .opened => s.enterOpen f r.attempts
  | _ => s.enterTripped f (r.role.getD .leader)

/-- Completion of a trip (R85). -/
def State.completeTrip (s : State) (f : Feeder) : State :=
  (s.modFeeder f fun r => { r with tripCoil := false, topen := none, op := .none }).enterAfter f

/-- The judgement of a trip in TRIPPING (R85). -/
def State.judgeTrip (f : Feeder) (s : State) : State :=
  if (s.feeder f).state = .tripping ∧ s.tripComplete f then s.completeTrip f else s

/-- Breaker failure (R87). -/
def State.failBreaker (s : State) (f : Feeder) : State :=
  let detail := if s.laneFresh (currentLane f) then magnitude (s.current f) else 0
  let cause := (s.feeder f).tripCause
  let s := (s.modFeeder f fun r => { r with topen := none, after := none, role := none }).setState f .failed
  let s := ((s.writeRecord f .bf false none).putCauses .breakerFailure true).startIntertrip f .bf
  (s.alarm .breakerFailure (.feeder f) cause detail).status

/-- The Topen timer expires in TRIPPING (R87). -/
def State.topenEnds (s : State) (f : Feeder) : State :=
  if s.tripComplete f then s.completeTrip f else s.failBreaker f

/-! ### Closes (section 5.4) -/

/-- The close coil may not be driven (R78, R89). -/
def State.closeHeld (s : State) (f : Feeder) : Bool :=
  (s.feeder f).holds.interlock || s.doorActive || (s.prot f).pickedUp

/-- A failed close (R92): detail 1 when Tclose expired, 2 when the close was held off at its start. -/
def State.failClose (s : State) (f : Feeder) (detail : Int) : State :=
  let s :=
    (s.modFeeder f fun r => { r with closeCoil := false, tclose := none, op := .none }).alarm .closeFail (.feeder f)
      none detail
  let r := s.feeder f
  match r.role with
  | some .manual => s.enterOpen f r.attempts
  | _ => if (s.feederSet f).nmax ≤ r.attempts then s.enterLockout f else s.enterTripped f .leader

/-- A close operation begins (R89). -/
def State.driveClose (s : State) (f : Feeder) : State :=
  let s :=
    (s.modFeeder f fun r =>
      { r with
        contactor := false, closeCoil := true, op := .close, dead := none, follow := none, live := .stopped,
        tclose := s.after ((s.feederSet f).tclose * msec) }).setState f .closing
  s.status.laneDecision f

/-- The reclose logic asks for a close (R89). -/
def State.askClose (s : State) (f : Feeder) : State :=
  if s.closeHeld f then s.failClose f 2 else s.driveClose f

/-- The close of a leader or a follower: its attempt is counted, unless the count or the reclose-blocked flag sends the
feeder to LOCKOUT (R107). A manual close counts nothing. -/
def State.reclose (s : State) (f : Feeder) : State :=
  let r := s.feeder f
  if r.role = some .manual then s.askClose f
  else if r.blocked ∨ (s.feederSet f).nmax ≤ r.attempts then s.enterLockout f
  else (s.modFeeder f fun r => { r with attempts := r.attempts + 1 }).askClose f

/-- The close coil is released in CLOSING (R89). -/
def State.dropClose (s : State) (f : Feeder) : State :=
  if (s.feeder f).state = .closing then s.modFeeder f fun r => { r with closeCoil := false } else s

/-- A feeder is CLOSED, with its reclaim timer started and its reclose ended (R90, R94). -/
def State.intoClosed (s : State) (f : Feeder) : State :=
  (s.modFeeder f fun r =>
    { r with
      closeCoil := false, tclose := none, op := .none, role := none, tripCause := none, dead := none, follow := none,
      live := .stopped, reclaim := s.after ((s.feederSet f).treclaim * msec) }).setState f .closed

/-- The close is confirmed (R90). -/
def State.confirmClose (s : State) (f : Feeder) : State := ((s.intoClosed f).status).laneDecision f

/-! ### The end of a test (R113, R117, R122) -/

/-- Every exit from TESTING: the contactor is released, TEST NOTICE END asked for if START was sent, and the test record
removed (R113). -/
def State.endTest (s : State) (f : Feeder) : State :=
  let started :=
    match (s.feeder f).test with
    | some t => t.startSent
    | none => false
  let s := s.modFeeder f fun r => { r with contactor := false, op := .none }
  let s := if started then s.sendNotice f 2 else s
  s.modFeeder f fun r => { r with test := none }

/-- A test is abandoned by a hold reason (R122, R123). The STATUS of a manual test's return to OPEN comes before CLOSE
REFUSED (DESIGN CHOICE, log 71). -/
def State.abandonHeld (s : State) (f : Feeder) : State :=
  let s := s.endTest f
  let r := s.feeder f
  match r.role with
  | some .manual => (s.enterOpen f r.attempts).alarm .closeRefused (.feeder f) (some .abandoned) 0
  | _ => s.enterTripped f .leader

/-! ### Contact edges (sections 5.2 and 5.5) -/

/-- A direct release (R93). Into LOCKOUT, its alarm and its one STATUS come at the entry, as R98 has them (log 51). -/
def State.directRelease (s : State) (f : Feeder) : State :=
  let after := (s.feeder f).afterTrip (s.feederSet f).nmax .direct
  let s := s.modFeeder f fun r => { r with reclaim := none, tripCause := some .direct }
  let s := if after = .lockout then s.enterLockout f else s.intoTripped f .leader
  let s := ((s.writeRecord f .direct false none).raiseTrip f).startIntertrip f .direct
  let s := s.wake .feederTrip
  if after = .lockout then s else s.status

/-- The detail of UNCOMMANDED CLOSE: the state left (R94). -/
def FeederState.leftDetail : FeederState → Int
  | .tripped => 1
  | .lockout => 2
  | .testing => 3
  | _ => 0

/-- A close without a command (R94). In CONFIG FAULT the feeder is tripped again at the same event (R82). -/
def State.uncommandedClose (s : State) (f : Feeder) : State :=
  let left := (s.feeder f).state
  let s := if left = .testing then s.endTest f else s
  let s := ((s.intoClosed f).alarm .uncommandedClose (.feeder f) none left.leftDetail).status
  if s.inConfigFault then s.tripStart f .control none else s.laneDecision f

/-- A debounced edge of a feeder's contact, its level already taken (section 5.8). -/
def State.contactEdge (s : State) (f : Feeder) : State :=
  let r := s.feeder f
  match r.state with
  | .closing => if r.contact then s.confirmClose f else s
  | .closed => if r.contact then s else s.directRelease f
  | .tripping => s.judgeTrip f
  | .failed => s
  | _ => if r.contact then s.uncommandedClose f else s

/-- The contact debounce timer expires (R81). Before step 4 of start-up an edge changes no feeder state (R79), and the
edges of a feeder that is not enabled change nothing (R80). -/
def State.debounceContact (s : State) (f : Feeder) : State :=
  let raw := s.pins.contacts[f]
  let edge := raw ≠ (s.feeder f).contact
  let s := s.modFeeder f fun r => { r with contactTimer := none, contact := raw }
  if edge ∧ s.feederEnabled f then s.contactEdge f else s

/-- A feeder's state is adopted from its contact (R80, R82). -/
def State.adopt (f : Feeder) (s : State) : State :=
  if s.feederEnabled f then
    let st : FeederState := if (s.feeder f).contact then .closed else .opened
    (s.modFeeder f fun r => { r with attempts := 0 }).setState f st
  else s

/-- In CONFIG FAULT a feeder found CLOSED is tripped with cause CONTROL (R82). -/
def State.tripFound (f : Feeder) (s : State) : State :=
  if (s.feeder f).state = .closed then s.tripStart f .control none else s

/-! ### The follower (section 6.4) -/

/-- The judgement of a follower's live-line close (R111). -/
def State.judgeFollower (f : Feeder) (s : State) : State :=
  let r := s.feeder f
  if r.state = .tripped ∧ r.role = some .follower ∧ r.live = .elapsed ∧ !r.holds.interlock ∧ !r.holds.lane ∧
      s.liveCloseAllowed f then
    (s.modFeeder f fun r => { r with follow := none, live := .stopped }).reclose f
  else s

/-- A valid sample notice of a follower's line-side lane while it is FRESH (R110). -/
def State.watchLive (f : Feeder) (s : State) : State :=
  let r := s.feeder f
  if r.state = .tripped ∧ r.role = some .follower then
    if s.vl f ≤ (s.feederSet f).vlive then s.modFeeder f fun r => { r with live := .stopped }
    else if r.live = .stopped then
      s.modFeeder f fun r => { r with live := .running (s.clock + 100 * msec) }
    else s
  else s

/-- The live timer expires (R110, R111). -/
def State.liveElapses (s : State) (f : Feeder) : State :=
  (s.modFeeder f fun r => { r with live := .elapsed }).judgeFollower f

/-- The follow timer expires (R112). -/
def State.followEnds (s : State) (f : Feeder) : State :=
  (s.modFeeder f fun r => { r with follow := none, live := .stopped, role := some .leader }).judgeDead f

/-! ### Hold reasons (sections 5.1 and 6.2) -/

/-- What the addition of a hold reason does to a close or a test in progress (R89, R122). -/
def State.holdArises (s : State) (f : Feeder) (m : HoldReason) : State :=
  match (s.feeder f).state, m with
  | .closing, .interlock => s.dropClose f
  | .testing, .supply => s
  | .testing, _ => s.abandonHeld f
  | _, _ => s

/-- What the removal of a hold reason asks of a follower (R111). -/
def State.holdCeases (s : State) (f : Feeder) (m : HoldReason) : State :=
  match m with
  | .interlock => s.judgeFollower f
  | .lane => s.judgeFollower f
  | _ => s

/-- A hold reason is added to or removed from a feeder's set (R104, R105, R121, R180, R13). -/
def State.setHold (s : State) (f : Feeder) (m : HoldReason) (present : Bool) : State :=
  if (s.feeder f).holds.has m = present then s
  else
    let s := (s.modFeeder f fun r => { r with holds := r.holds.put m present }).judgeDead f
    if present then s.holdArises f m else s.holdCeases f m

/-- The hold reason LANE follows the health of L0, Lf and L(4+f) (R13). -/
def State.judgeLaneHold (f : Feeder) (s : State) : State := s.setHold f .lane (s.laneHold f)

/-- The hold reason SUPPLY of an enabled feeder, at a valid notice of a FRESH L0 while the station runs (R104). -/
def State.judgeSupply (f : Feeder) (s : State) : State :=
  if s.running && s.feederEnabled f then s.setHold f .supply (decide (s.vb < (s.feederSet f).vsupplyMin)) else s

/-! ### The line test (section 6.5) -/

/-- The peer-notice record holds a START from a station lower-numbered than this one (R121). -/
def State.lowerNotice (s : State) (f : Feeder) : Bool :=
  match (s.feeder f).notice with
  | some n => decide (n.origin.toNat < s.cl.station.toNat)
  | none => false

/-- A test begins, with the role the feeder holds (R113). START is originated before TESTING is handed over, also at a dead
time's end (DESIGN CHOICE, log 64). -/
def State.beginTest (s : State) (f : Feeder) : State :=
  if s.lowerNotice f || (s.feeder f).holds.lane then
    (s.enterOpen f (s.feeder f).attempts).alarm .closeRefused (.feeder f) (some .abandoned) 0
  else
    let startSent : Bool := (s.feederSet f).farStation != 0
    let s := s.modFeeder f fun r => { r with dead := none, follow := none, live := .stopped }
    let s := if startSent then s.sendNotice f 1 else s
    ((s.modFeeder f fun r =>
      { r with
        test :=
          some { stage := .notice, timer := s.clock + 60 * msec, startSent, agreement := none } }).setState f
      .testing).status

/-- The dead time expires (R106). -/
def State.deadEnds (s : State) (f : Feeder) : State :=
  if (s.feederSet f).nmax ≤ (s.feeder f).attempts then s.enterLockout f
  else (s.modFeeder f fun r => { r with dead := none, role := some .leader }).beginTest f

/-- A judgement FAIL or UNSAFE, its test already ended (R118, R119). The STATUS of a manual test's return to OPEN comes
before CLOSE REFUSED (DESIGN CHOICE, log 71). -/
def State.testFails (s : State) (f : Feeder) (judgement : Cause) : State :=
  let r := s.feeder f
  match r.role with
  | some .manual => (s.enterOpen f r.attempts).alarm .closeRefused (.feeder f) (some judgement) (s.vl f)
  | _ =>
    let nmax := (s.feederSet f).nmax
    let attempts := if r.attempts < nmax then r.attempts + 1 else r.attempts
    let s :=
      (s.modFeeder f fun r => { r with attempts }).alarm .lineTestFail (.feeder f) (some judgement) attempts
    if nmax ≤ attempts then s.enterLockout f else s.enterTripped f .leader

/-- A test enters a stage that lasts so many microseconds. -/
def State.setStage (s : State) (f : Feeder) (stage : Stage) (us : Nat) : State :=
  s.modFeeder f fun r =>
    match r.test with
    | some t =>
      { r with
        test :=
          some
            { t with
              stage, timer := s.clock + us, agreement := if stage = .secondHalf then some true else t.agreement } }
    | none => r

/-- INJECT begins (R115). -/
def State.inject (s : State) (f : Feeder) : State :=
  (s.modFeeder f fun r => { r with contactor := true, op := .testContactor }).setStage f .contactor (50 * msec)

/-- The precheck at the end of NOTICE (R114). Where it ends the test, TEST NOTICE END is originated before the judgement's
other effects (DESIGN CHOICE, log 69). -/
def State.precheck (s : State) (f : Feeder) : State :=
  if s.vl f ≤ (s.feederSet f).vlive then s.inject f
  else if s.liveCloseAllowed f then (s.endTest f).reclose f
  else (s.endTest f).testFails f .notSafe

/-- The end of the window (R117). -/
def State.endWindow (s : State) (f : Feeder) : State :=
  let agreed :=
    match (s.feeder f).test with
    | some t => t.agreement == some true
    | none => false
  let s := s.endTest f
  if agreed then s.reclose f else s.testFails f .fail

/-- The stage timer expires in a stage (R114, R115, R117). -/
def State.stageEnds (s : State) (f : Feeder) (stage : Stage) : State :=
  let ttest := (s.feederSet f).ttest
  match stage with
  | .notice => s.precheck f
  | .contactor => s.setStage f .firstHalf (ttest / 2 * msec)
  | .firstHalf => s.setStage f .secondHalf ((ttest - ttest / 2) * msec)
  | .secondHalf => s.endWindow f

/-- The line voltage does not follow the busbar voltage, or the busbar is too low (R116). -/
def State.disagrees (s : State) (f : Feeder) : Bool :=
  let m := s.feederSet f
  decide (s.vl f < s.vb * m.ktest / 256) || decide (s.vb < m.vsupplyMin)

/-- A valid sample notice of L0 or L(4+f) (R116). -/
def State.judgeAgreement (f : Feeder) (s : State) : State :=
  if s.disagrees f then
    s.modFeeder f fun r =>
      match r.test with
      | some t => if t.stage = .secondHalf then { r with test := some { t with agreement := some false } } else r
      | none => r
  else s

/-! ### Test notices (section 6.7) -/

/-- The peer-notice record takes a value, and PEER TESTING follows it (R121). -/
def State.setNotice (s : State) (f : Feeder) (n : Option NoticeRec) : State :=
  let s := s.modFeeder f fun r => { r with notice := n }
  s.setHold f .peerTesting (s.lowerNotice f)

/-- A START heard for a feeder's section (R120). -/
def State.noticeStart (s : State) (f : Feeder) (origin : Byte) : State :=
  let new : NoticeRec := { origin, timer := s.clock + 4000 * msec }
  match (s.feeder f).notice with
  | some n => if n.origin.toNat < origin.toNat then s else s.setNotice f (some new)
  | none => s.setNotice f (some new)

/-- An END heard for a feeder's section (R120). -/
def State.noticeEnd (s : State) (f : Feeder) (origin : Byte) : State :=
  match (s.feeder f).notice with
  | some n => if n.origin = origin then s.setNotice f none else s
  | none => s

/-- A TEST NOTICE is handed to the Sequencer (R120). A phase other than START and END is passed over (log 21). -/
def State.takeNotice (s : State) (origin : Byte) (b : NoticeBody) : State :=
  if s.running && origin != s.cl.station then
    forFeeders
      (fun f s =>
        if s.feederEnabled f && (s.feederSet f).sectionId == b.sectionId then
          if b.phase = 1 then s.noticeStart f origin else if b.phase = 2 then s.noticeEnd f origin else s
        else s)
      s
  else s

/-! ### Requests of the Coordinator and the gateway (sections 5.6 and 5.7) -/

/-- The answer of the Sequencer to an intertrip (R95). -/
inductive Answer
  | tripped
  | noted
  deriving DecidableEq, Repr

/-- An INTERTRIP that the Coordinator passes (R95). -/
def State.takeIntertrip (s : State) (f : Feeder) (origin : Byte) : State × Answer :=
  match (s.feeder f).state with
  | .closed => (s.tripStart f .remote (some origin), .tripped)
  | .closing => (s.tripStart f .remote (some origin), .tripped)
  | .testing =>
    let s := (s.endTest f).modFeeder f fun r => { r with tripCause := some .remote }
    ((s.writeRecord f .remote false (some origin)).enterTripped f .follower, .tripped)
  | _ => (s, .noted)

/-- The command OPEN (R97). -/
def State.commandOpen (s : State) (f : Feeder) : State × CommandResult :=
  if s.feederEnabled f then
    match (s.feeder f).state with
    | .closed => (s.tripStart f .control none, .done)
    | .closing => (s.tripStart f .control none, .done)
    | .testing => ((s.endTest f).enterOpen f 0, .done)
    | .tripped => (s.enterOpen f 0, .done)
    | .lockout => (s.enterOpen f 0, .done)
    | _ => (s, .done)
  else (s, .refusedState)

/-- The command CLOSE (R100). -/
def State.commandClose (s : State) (f : Feeder) : State × CommandResult :=
  if s.feederEnabled f then
    if (s.feeder f).state = .opened then
      if (s.feeder f).holds.interlock then (s, .refusedInterlock)
      else ((s.modFeeder f fun r => { r with role := some .manual }).beginTest f, .done)
    else (s, .refusedState)
  else (s, .refusedState)

/-- The command BLOCK RECLOSE (R99). -/
def State.commandBlock (s : State) (f : Feeder) : State × CommandResult :=
  if s.feederEnabled f then ((s.modFeeder f fun r => { r with blocked := true }).blockTripped f, .done)
  else (s, .refusedState)

/-- The command UNBLOCK RECLOSE (R99). -/
def State.commandUnblock (s : State) (f : Feeder) : State × CommandResult :=
  if s.feederEnabled f then (s.modFeeder f fun r => { r with blocked := false }, .done) else (s, .refusedState)

/-- A failed breaker is cleared (R101). -/
def State.clearFailed (s : State) (f : Feeder) : State :=
  let s :=
    (s.modFeeder f fun r =>
      { r with
        tripCoil := false, op := .none, tripCause := none, attempts := 0, role := none }).setState f .opened
  (if s.anyFailed then s else s.putCauses .breakerFailure false).status

/-- The command RESET FEEDER (R101). -/
def State.commandReset (s : State) (f : Feeder) : State × CommandResult :=
  if s.feederEnabled f then
    match (s.feeder f).state with
    | .lockout => (s.enterOpen f 0, .done)
    | .failed => if s.tripComplete f then (s.clearFailed f, .done) else (s, .refusedState)
    | _ => (s, .refusedState)
  else (s, .refusedState)

end Sys2Proof.Machine
end

