-- ==== Sys2Proof/Machine/Elements.lean ====
section
/-! DEFINITION. The elements of Feeder Protection: IMAX, DDL and LOWV, and the acting on their decisions (sections 4.2 to
4.6). -/

namespace Sys2Proof.Machine

/-! ### IMAX (section 4.2) -/

/-- One valid sample on a FRESH lane, and whether IMAX decides (R63, R64). -/
def ProtRec.imaxStep (r : ProtRec) (imax current : Int) : ProtRec × Bool :=
  if r.imaxPicked then
    if magnitude current < imax * 9 / 10 then ({ r with imaxRun := 0, imaxPicked := false }, false)
    else ({ r with imaxRun := 0 }, false)
  else if magnitude current < imax then ({ r with imaxRun := 0 }, false)
  else if 2 ≤ r.imaxRun + 1 then ({ r with imaxRun := 0, imaxPicked := true }, true)
  else ({ r with imaxRun := r.imaxRun + 1 }, false)

/-! ### DDL (section 4.3) -/

/-- A valid sample while DDL is QUIET and not picked up (R65). -/
def ProtRec.ddlStart (r : ProtRec) (m : FeederSettings) (current di : Int) : ProtRec :=
  if m.dstart ≤ di ∧ 0 ≤ current - di then
    { r with ddlRising := true, ddlBase := current - di, ddlT := 0, ddlLowRun := 0, ddlPeak := di }
  else r

/-- A valid sample while DDL is picked up (R67). -/
def ProtRec.ddlRearm (r : ProtRec) (m : FeederSettings) (current : Int) : ProtRec :=
  if current - r.ddlBase < m.deltaTrip * 9 / 10 then { r with ddlPicked := false } else r

/-- Steps 3 and 4 of a rise: the low run and the length of the rise (R66). -/
def ProtRec.ddlEnd (r : ProtRec) (m : FeederSettings) (di : Int) : ProtRec :=
  let low := if di < m.dend then r.ddlLowRun + 1 else 0
  { r with ddlLowRun := low, ddlRising := decide (low < 3) && decide (r.ddlT < m.trise) }

/-- A valid sample while DDL is RISING, and whether DDL decides (R66). -/
def ProtRec.ddlRise (r : ProtRec) (m : FeederSettings) (current di : Int) : ProtRec × Bool :=
  let r := { r with ddlT := r.ddlT + 1, ddlPeak := max r.ddlPeak (current - r.ddlBase) }
  if m.deltaTrip ≤ current - r.ddlBase then
    ({ r with ddlRising := false, ddlPicked := true, ddlLowRun := 0 }, true)
  else (r.ddlEnd m di, false)

/-- One valid sample on a FRESH lane, and whether DDL decides (R65, R66, R67). -/
def ProtRec.ddlStep (r : ProtRec) (m : FeederSettings) (current di : Int) : ProtRec × Bool :=
  if r.ddlPicked then (r.ddlRearm m current, false)
  else if r.ddlRising then r.ddlRise m current di
  else (r.ddlStart m current di, false)

/-! ### Acting on a decision (sections 4.5 and 4.6) -/

/-- The elements are evaluated: the station runs and the feeder is enabled (R61). -/
def State.evaluates (s : State) (f : Feeder) : Bool := s.running && s.feederEnabled f

/-- A protection record takes its value after an element's evaluation. The picked-up flag becoming set is handed to the
Sequencer, which releases a close coil (R70, R89). -/
def State.setProt (s : State) (f : Feeder) (r : ProtRec) : State :=
  let rises := !(s.prot f).pickedUp && r.pickedUp
  let s := s.modProt f fun _ => r
  if rises then s.dropClose f else s

/-- A decision of an element, its pick-up already made (R71, R72, R73, R74). -/
def State.takeDecision (s : State) (f : Feeder) (cause : Cause) (detail : Int) : State :=
  if (s.prot f).copy.acting then
    if (s.feederSet f).observe then
      (s.writeRecord f cause true none).alarm .wouldTrip (.feeder f) (some cause) detail
    else s.requestTrip f cause
  else s

/-- A valid notice of Lf while the lane is FRESH: IMAX, then DDL, and at most one decision handed on (R63, R65, R71). -/
def State.evaluateCurrent (s : State) (f : Feeder) : State :=
  let m := s.feederSet f
  let current := s.current f
  let (r1, imax) := (s.prot f).imaxStep m.imax current
  let (r2, ddl) := r1.ddlStep m current s.li.di[f]
  let s := s.setProt f r2
  if imax then s.takeDecision f .imax (magnitude current)
  else if ddl then s.takeDecision f .ddl (current - r2.ddlBase)
  else s

/-- The peak window takes a notice of Lf (R75). -/
def State.trackPeak (s : State) (f : Feeder) (valid : Bool) : State :=
  s.modProt f fun r =>
    { r with
      window :=
        (if valid then [(s.clock, magnitude (s.current f))] else []) ++ recent s.clock r.window }

/-- A sample notice of Lf reaches Feeder Protection (R11, R75). -/
def State.protCurrent (s : State) (f : Feeder) (valid : Bool) : State :=
  let s := s.trackPeak f valid
  if valid && s.laneFresh (currentLane f) && s.evaluates f then s.evaluateCurrent f else s

/-! ### LOWV (section 4.4) -/

/-- A valid notice of L0 or L(4+f) for the LOWV timer (R68). -/
def State.watchLowv (f : Feeder) (s : State) : State :=
  let m := s.feederSet f
  let r := s.prot f
  if s.evaluates f && r.copy == .closed && !r.lowvPicked && s.laneFresh 0 && s.laneFresh (lineLane f) then
    if s.vl f < m.vlow ∧ m.vsupplyMin ≤ s.vb then
      s.modProt f fun r =>
        match r.lowvTimer with
        | some _ => r
        | none => { r with lowvTimer := s.after (m.tlow * msec) }
    else s.modProt f fun r => { r with lowvTimer := none }
  else s

/-- A valid notice of L(4+f) while it is FRESH re-arms LOWV above its re-arm level (R69). -/
def State.rearmLowv (f : Feeder) (s : State) : State :=
  let vlow := (s.feederSet f).vlow
  if s.evaluates f && s.laneFresh (lineLane f) && decide (vlow + vlow / 20 < s.vl f) then
    s.modProt f fun r => { r with lowvPicked := false }
  else s

/-- The LOWV timer is stopped by a lane of its going STALE (R12, R68). -/
def State.stopLowv (f : Feeder) (s : State) : State := s.modProt f fun r => { r with lowvTimer := none }

/-- The LOWV timer expires (R69). -/
def State.lowvDecides (s : State) (f : Feeder) : State :=
  (s.setProt f { s.prot f with lowvTimer := none, lowvPicked := true }).takeDecision f .lowv (s.vl f)

/-- A current lane goes STALE: IMAX and DDL return to rest with their pick-ups kept, and FP makes its LANE decision
(R10). -/
def State.currentLost (s : State) (f : Feeder) : State :=
  (s.modProt f fun r => { r with imaxRun := 0, ddlRising := false, ddlT := 0, ddlLowRun := 0 }).laneDecision f

end Sys2Proof.Machine
end

