-- ==== Sys2Proof/Machine/Coordination.lean ====
section
/-! DEFINITION. The Section Coordinator's peer table, its locate records and its receiving side, and the listener list of
the Pilot Port controller (sections 8.1, 8.2, 8.5 and 7.6). -/

namespace Sys2Proof.Machine

/-! ### The peer table (section 8.1) -/

/-- Change the entry of a station. -/
def State.modPeer (s : State) (station : Byte) (g : PeerEntry → PeerEntry) : State :=
  { s with sc := { s.sc with peers := modFirst (fun e => e.station == station) g s.sc.peers } }

/-- A new entry: never heard, STALE, with its timers stopped (R144, R145). -/
def PeerEntry.fresh (station : Byte) (pinned : Bool) : PeerEntry :=
  { station, pinned, reach := none, health := .stale, lastHeard := none, staleTimer := none, removalTimer := none,
    contents := none, locate := .idle, locateTimer := none }

/-- The time since an entry was last heard; an entry never heard counts as earliest (R145). -/
def PeerEntry.age (e : PeerEntry) (now : Nat) : Nat :=
  match e.lastHeard with
  | some t => elapsed t now
  | none => 4294967296

/-- The table without the unpinned entry heard earliest, the first created among equals (R145). -/
def evictPeer (now : Nat) (peers : List PeerEntry) : List PeerEntry :=
  let oldest := ((peers.filter fun e => !e.pinned).map fun e => e.age now).foldl max 0
  dropFirst (fun e : PeerEntry => !e.pinned && e.age now == oldest) peers

/-- The table has an entry for a station, made unpinned where there was none (R145). -/
def State.ensurePeer (s : State) (station : Byte) : State :=
  match s.peer station with
  | some _ => s
  | none =>
    let peers := if 16 ≤ s.sc.peers.length then evictPeer s.time s.sc.peers else s.sc.peers
    { s with sc := { s.sc with peers := peers ++ [.fresh station false] } }

/-- How a frame reached this station: directly with hop count 7, forwarded otherwise (R145). -/
def reachOf (p : Port) (h : Header) : Reach := if h.hops = 7 then .direct p else .forwarded p

/-- An entry after a STATUS (R145). -/
def PeerEntry.heard (e : PeerEntry) (b : StatusBody) (r : Reach) (now : Nat) (stale : Timer) : PeerEntry :=
  { e with
    contents := some b, lastHeard := some now, reach := some r, staleTimer := stale, removalTimer := none,
    health := .fresh }

/-- The locate record of a FRESH pinned entry follows its reach: IDLE when it is heard directly, REPEAT while it is
heard forwarded (R148, R149). A record already in REPEAT keeps its timer, also one that is due at this instant (DESIGN
CHOICE, log 61). -/
def PeerEntry.located (e : PeerEntry) (again : Timer) : PeerEntry :=
  match e.reach with
  | some (.forwarded _) => if e.locate = .again then e else { e with locate := .again, locateTimer := again }
  | some (.direct _) => { e with locate := .idle, locateTimer := none }
  | none => e

/-- A feeder's map entry names the station as far station. -/
def State.farIs (s : State) (f : Feeder) (station : Byte) : Bool := (s.feederSet f).farStation == station

/-- A change of a pinned entry is handed on: to the followers, to standby, to the intertrip senders and to load sharing
(R147). -/
def State.peerChanged (s : State) (station : Byte) : State :=
  let s := forFeeders (fun f s => if s.farIs f station then State.judgeFollower f s else s) s
  let s := s.judgeWake
  (forFeeders (fun f s => if s.farIs f station then State.judgeConfirmation f s else s) s).judgeLoad

/-- The station has a pinned entry. -/
def State.pinnedPeer (s : State) (station : Byte) : Bool :=
  match s.peer station with
  | some e => e.pinned
  | none => false

/-- A STATUS is handed to the Coordinator (R145, R147, R148, R149). -/
def State.takeStatus (s : State) (p : Port) (h : Header) (b : StatusBody) : State :=
  let s := s.ensurePeer h.origin
  let s := s.modPeer h.origin fun e => e.heard b (reachOf p h) s.time (s.after (s.settings.tstale * msec))
  if s.pinnedPeer h.origin then
    (s.modPeer h.origin fun e => e.located (s.after (5000 * msec))).peerChanged h.origin
  else s

/-- The stale timer of an entry expires (R146, R147, R148). PEER LOST is raised before the change is handed on (DESIGN
CHOICE, log 67). -/
def State.peerStale (s : State) (station : Byte) : State :=
  if s.pinnedPeer station then
    let s :=
      s.modPeer station fun e =>
        { e with health := .stale, staleTimer := none, locate := .first, locateTimer := s.after (1000 * msec) }
    (s.alarm .peerLost (.peer station) none 1).peerChanged station
  else
    s.modPeer station fun e =>
      { e with health := .stale, staleTimer := none, removalTimer := s.after (10000 * msec) }

/-- The removal timer of an entry expires (R146). -/
def State.removePeer (s : State) (station : Byte) : State :=
  { s with sc := { s.sc with peers := dropFirst (fun e => e.station == station) s.sc.peers } }

/-- The far stations named in the section map, each once, in map order (R144). -/
def Settings.farStations (c : Settings) : List Byte :=
  ((c.feeders.toList.map (·.farStation)).filter (· != 0)).eraseDups

/-- The pinned entries of start-up, each STALE with its locate record in FIRST (R144, R148). -/
def State.pinPeers (s : State) : State :=
  { s with
    sc :=
      { s.sc with
        peers :=
          (Settings.farStations s.settings).map fun n =>
            { PeerEntry.fresh n true with locate := .first, locateTimer := s.after (1000 * msec) } } }

/-! ### Finding a far peer (section 8.2) -/

/-- A LOCATE for a station, for both ports (R148). -/
def State.sendLocate (s : State) (station : Byte) (scope : Scope) : State :=
  s.originate (.locate { sought := station }) scope fun _ => true

/-- A locate record enters a stage with its timer. -/
def State.setLocate (s : State) (station : Byte) (stage : LocateStage) (us : Nat) : State :=
  s.modPeer station fun e => { e with locate := stage, locateTimer := s.after us }

/-- The locate timer expires in a stage (R148, R149). -/
def State.locateEnds (s : State) (e : PeerEntry) : State :=
  match e.locate with
  | .idle => s
  | .first => (s.sendLocate e.station .segment).setLocate e.station .second (1000 * msec)
  | .second =>
    let s := (s.sendLocate e.station .network).setLocate e.station .again (5000 * msec)
    if e.lastHeard.isNone then s.alarm .peerLost (.peer e.station) none 2 else s
  | .again => (s.sendLocate e.station .network).setLocate e.station .again (5000 * msec)

/-- The listener that would expire soonest (R140). -/
def soonest (ls : List Listener) : Nat := (ls.map (·.timer)).foldl min ((ls.map (·.timer)).foldl max 0)

/-- A requester is added to the listener list, or its entry refreshed (R140). -/
def addListener (station : Byte) (timer : Nat) (ls : List Listener) : List Listener :=
  if ls.any fun l => l.station == station then
    modFirst (fun l => l.station == station) (fun l => { l with timer }) ls
  else if ls.length < 8 then ls ++ [{ station := station, timer := timer }]
  else dropFirst (fun l : Listener => l.timer == soonest ls) ls ++ [{ station := station, timer := timer }]

/-- A reply STATUS (R141). -/
def State.reply (s : State) (to_ : Byte) (scope : Scope) : State :=
  s.originate (.status (s.statusBody (some to_))) scope fun _ => true

/-- A LOCATE is handed to the Coordinator (R150). -/
def State.takeLocate (s : State) (h : Header) (b : LocateBody) : State :=
  if b.sought = s.cl.station ∨ b.sought = 0 then
    let s :=
      if h.scope = .network then
        { s with pp := { s.pp with listeners := addListener h.origin (s.clock + 12000 * msec) s.pp.listeners } }
      else s
    s.reply h.origin h.scope
  else s

/-! ### The intertrip receiver (section 8.5) -/

/-- The feeder of a number 1 to 4. -/
def feederOf (n : Byte) : Option Feeder :=
  match n.toNat with
  | 1 => some 0
  | 2 => some 1
  | 3 => some 2
  | 4 => some 3
  | _ => none

/-- The feeder for which an INTERTRIP is valid (R155). -/
def State.intertripFeeder (s : State) (h : Header) (b : IntertripBody) : Option Feeder :=
  match feederOf b.feeder with
  | some f =>
    let m := s.feederSet f
    if s.feederEnabled f && m.sectionId == b.sectionId && m.farStation == h.origin then some f else none
  | none => none

/-- A valid INTERTRIP acts by its age (R156). -/
def State.actIntertrip (s : State) (f : Feeder) (origin : Byte) (age : Nat) : State :=
  if 1000 < age then s.noteIntertrip f
  else
    match s.takeIntertrip f origin with
    | (s, .tripped) => s
    | (s, .noted) => s.noteIntertrip f

/-- An INTERTRIP is handed to the Coordinator (R155). -/
def State.receiveIntertrip (s : State) (h : Header) (b : IntertripBody) : State :=
  if b.target = s.cl.station then
    match s.intertripFeeder h b with
    | some f => s.actIntertrip f h.origin b.age.toNat
    | none => s.alarm .mapMismatch (.peer h.origin) none b.sectionId.toNat
  else s

end Sys2Proof.Machine
end

