-- ==== Sys2Proof/Machine/CoordinationCommands.lean ====
section
/-! DEFINITION. The meanings of the coordination rows (Chapter 8). -/

namespace Sys2Proof.Machine

/-- STALE_TIMER_EXPIRY (R146). -/
def execStaleTimerExpiry (station : Byte) (s : State) : Host.Outcome State Fault Refusal :=
  match s.peer station with
  | some e => .next (if Timer.due e.staleTimer s.clock then s.peerStale station else s)
  | none => .next s

/-- REMOVAL_TIMER_EXPIRY (R146). -/
def execRemovalTimerExpiry (station : Byte) (s : State) : Host.Outcome State Fault Refusal :=
  match s.peer station with
  | some e => .next (if Timer.due e.removalTimer s.clock then s.removePeer station else s)
  | none => .next s

/-- LOCATE_TIMER_EXPIRY (R148, R149). -/
def execLocateTimerExpiry (station : Byte) (s : State) : Host.Outcome State Fault Refusal :=
  match s.peer station with
  | some e => .next (if Timer.due e.locateTimer s.clock then s.locateEnds e else s)
  | none => .next s

/-- REPEAT_TIMER_EXPIRY: the next frame of an intertrip (R153). -/
def execRepeatTimerExpiry (f : Feeder) (s : State) : Host.Outcome State Fault Refusal :=
  .next
    (if (s.sender f).state = .sending ∧ Timer.due (s.sender f).repeatTimer s.clock then s.repeatIntertrip f else s)

/-- CONFIRM_TIMER_EXPIRY: an intertrip is left unconfirmed (R154). -/
def execConfirmTimerExpiry (f : Feeder) (s : State) : Host.Outcome State Fault Refusal :=
  .next (if Timer.due (s.sender f).confirmTimer s.clock then s.confirmExpires f else s)

/-- DWELL_TIMER_EXPIRY: a step of the trim (R159). -/
def execDwellTimerExpiry (s : State) : Host.Outcome State Fault Refusal :=
  .next (if Timer.due s.sc.dwellTimer s.clock then s.dwellEnds else s)

/-- DECAY_TIMER_EXPIRY: the trim moves toward 0 (R160). -/
def execDecayTimerExpiry (s : State) : Host.Outcome State Fault Refusal :=
  .next (if Timer.due s.sc.decayTimer s.clock then s.decayStep else s)

end Sys2Proof.Machine
end

