-- ==== Sys2Proof/Machine/FeederCommands.lean ====
section
/-! DEFINITION. The meanings of the feeder rows: LOWV, the breaker, reclosing and the line test (Chapters 4 to 6). -/

namespace Sys2Proof.Machine

/-- LOWV_TIMER_EXPIRY (R69). -/
def execLowvTimerExpiry (f : Feeder) (s : State) : Host.Outcome State Fault Refusal :=
  .next (if Timer.due (s.prot f).lowvTimer s.clock then s.lowvDecides f else s)

/-- CONTACT_RAW_CHANGE: the raw level of an auxiliary contact changes and restarts the debounce (R81, log 37). -/
def execContactRawChange (f : Feeder) (closed : Bool) (s : State) : Host.Outcome State Fault Refusal :=
  .next
    (if s.pins.contacts[f] = closed then s
     else
      { s with pins := { s.pins with contacts := s.pins.contacts.set f closed } }.modFeeder f fun r =>
        { r with contactTimer := s.after (5 * msec) })

/-- CONTACT_DEBOUNCE_EXPIRY (R81). -/
def execContactDebounceExpiry (f : Feeder) (s : State) : Host.Outcome State Fault Refusal :=
  .next (if Timer.due (s.feeder f).contactTimer s.clock then s.debounceContact f else s)

/-- TOPEN_EXPIRY: a trip completes, or the breaker has failed (R87). -/
def execTopenExpiry (f : Feeder) (s : State) : Host.Outcome State Fault Refusal :=
  .next (if (s.feeder f).state = .tripping ∧ Timer.due (s.feeder f).topen s.clock then s.topenEnds f else s)

/-- TCLOSE_EXPIRY: a close has failed (R92). -/
def execTcloseExpiry (f : Feeder) (s : State) : Host.Outcome State Fault Refusal :=
  .next (if (s.feeder f).state = .closing ∧ Timer.due (s.feeder f).tclose s.clock then s.failClose f 1 else s)

/-- RECLAIM_EXPIRY: the attempt count returns to 0 (R91). -/
def execReclaimExpiry (f : Feeder) (s : State) : Host.Outcome State Fault Refusal :=
  .next
    (if (s.feeder f).state = .closed ∧ Timer.due (s.feeder f).reclaim s.clock then
      s.modFeeder f fun r => { r with attempts := 0, reclaim := none }
     else s)

/-- DEAD_TIME_EXPIRY (R106). -/
def execDeadTimeExpiry (f : Feeder) (s : State) : Host.Outcome State Fault Refusal :=
  .next (if Timer.due (s.feeder f).dead s.clock then s.deadEnds f else s)

/-- NOTICE_STAGE_EXPIRY: the precheck (R114). -/
def execNoticeStageExpiry (f : Feeder) (s : State) : Host.Outcome State Fault Refusal :=
  match (s.feeder f).test with
  | some t =>
    .next (if t.stage = .notice ∧ t.timer ≤ s.clock then s.stageEnds f .notice else s)
  | none => .next s

/-- CONTACTOR_STAGE_EXPIRY: the first half begins (R115). -/
def execContactorStageExpiry (f : Feeder) (s : State) : Host.Outcome State Fault Refusal :=
  match (s.feeder f).test with
  | some t =>
    .next (if t.stage = .contactor ∧ t.timer ≤ s.clock then s.stageEnds f .contactor else s)
  | none => .next s

/-- FIRST_HALF_EXPIRY: the second half begins (R115). -/
def execFirstHalfExpiry (f : Feeder) (s : State) : Host.Outcome State Fault Refusal :=
  match (s.feeder f).test with
  | some t =>
    .next (if t.stage = .firstHalf ∧ t.timer ≤ s.clock then s.stageEnds f .firstHalf else s)
  | none => .next s

/-- SECOND_HALF_EXPIRY: the window has ended (R117). -/
def execSecondHalfExpiry (f : Feeder) (s : State) : Host.Outcome State Fault Refusal :=
  match (s.feeder f).test with
  | some t =>
    .next (if t.stage = .secondHalf ∧ t.timer ≤ s.clock then s.stageEnds f .secondHalf else s)
  | none => .next s

/-- LIVE_TIMER_EXPIRY: the line has stood live for 100 ms (R110, R111). -/
def execLiveTimerExpiry (f : Feeder) (s : State) : Host.Outcome State Fault Refusal :=
  match (s.feeder f).live with
  | .running t => .next (if t ≤ s.clock then s.liveElapses f else s)
  | _ => .next s

/-- FOLLOW_TIMER_EXPIRY: the follower takes up the lead (R112). -/
def execFollowTimerExpiry (f : Feeder) (s : State) : Host.Outcome State Fault Refusal :=
  .next (if Timer.due (s.feeder f).follow s.clock then s.followEnds f else s)

/-- PEER_NOTICE_EXPIRY: the record is removed (R120, R121). -/
def execPeerNoticeExpiry (f : Feeder) (s : State) : Host.Outcome State Fault Refusal :=
  match (s.feeder f).notice with
  | some n => .next (if n.timer ≤ s.clock then s.setNotice f none else s)
  | none => .next s

end Sys2Proof.Machine
end

