-- ==== Sys2Proof/Machine/FiringCommands.lean ====
section
/-! DEFINITION. The meanings of the firing rows (Chapter 3). -/

namespace Sys2Proof.Machine

/-- FIRING: the tracked phase has reached the armed angle of a group in STARTING or RUNNING (R43, R44). -/
def execFiring (g : Group) (s : State) : Host.Outcome State Fault Refusal :=
  match (s.group g).armed with
  | some a =>
    .next (if (s.group g).state.fires && reached a.theta s.phi then s.fire g else s)
  | none => .next s

/-- PULSE_END: the tracked phase has reached the end of a group's pulse (R36, R44). -/
def execPulseEnd (g : Group) (s : State) : Host.Outcome State Fault Refusal :=
  match (s.group g).pulse with
  | some p => .next (if reached p.endPhase s.phi then s.endPulse g else s)
  | none => .next s

/-- WAKE_TIMER_EXPIRY: the busbar has stood below Vwake for 20 ms (R56, R58). -/
def execWakeTimerExpiry (s : State) : Host.Outcome State Fault Refusal :=
  .next (if Timer.due s.fc.wakeTimer s.clock then s.wake .vbLow else s)

end Sys2Proof.Machine
end

