-- ==== Sys2Proof/Machine/Image.lean ====
section
/-! DEFINITION. The configuration image (sections 11.2 and 11.3): its byte layout, its checks, and the clamping of its
settings to the ranges of section 11.5. -/

namespace Sys2Proof.Machine

/-! ### Bytes of the image -/

/-- The unsigned number in so many bytes of the image from an offset, high byte first (section 11.2). -/
def imageNat (image : List Byte) (offset width : Nat) : Nat :=
  ((image.drop offset).take width).foldl (fun n b => n * 256 + b.toNat) 0

/-- One byte of the image. -/
def imageByte (image : List Byte) (offset : Nat) : Byte := image.getD offset 0

/-- A bit of a byte of the image. -/
def imageBit (image : List Byte) (offset place : Nat) : Bool := (imageByte image offset).getLsbD place

/-! ### Checks (R183) -/

/-- What CL makes of the bytes read. -/
inductive ImageCheck
  | unfinished
  | bad
  | accepted
  deriving DecidableEq, Repr

/-- Format and length: none while their bytes are not in (R183). -/
def imageHead (image : List Byte) : Option Bool :=
  if image.length < 3 then none else some (imageNat image 0 1 == 1 && imageNat image 1 2 == 347)

/-- The checks made when all bytes are in (R183). -/
def imageSound (image : List Byte) (straps : Byte) : Bool :=
  BitVec.ofNat 16 (imageNat image 345 2) == crc16 (image.take 345) && imageByte image 3 == straps &&
    decide (1 ≤ imageNat image 4 1) && decide (imageNat image 4 1 ≤ 250) && decide (imageNat image 5 1 ≤ 250)

/-- The check of the bytes delivered: a bad head is bad at once, fewer than 347 bytes leave the read going on (R183,
log 26). -/
def checkImage (image : List Byte) (straps : Byte) : ImageCheck :=
  match imageHead image with
  | none => .unfinished
  | some false => .bad
  | some true =>
    if image.length < 347 then .unfinished else if imageSound image straps then .accepted else .bad

/-! ### Settings tables (section 11.5) -/

/-- A numeric setting of the image: where it stands, how many bytes it takes, and its range. -/
structure Setting where
  offset : Nat
  width : Nat
  lo : Int
  hi : Int
  deriving DecidableEq, Repr

/-- The value as the image has it. -/
def Setting.raw (d : Setting) (image : List Byte) : Int := imageNat image d.offset d.width

/-- The value clamped to its range (R184). -/
def Setting.value (d : Setting) (image : List Byte) : Int := clampInt d.lo d.hi (d.raw image)

/-- 1 if the clamp changes the setting (R184). -/
def Setting.changed (d : Setting) (image : List Byte) : Nat := if d.value image = d.raw image then 0 else 1

/-- Settings that stand one after another from an offset, each with its width and range. -/
def layOut : Nat → List (Nat × Int × Int) → List Setting
  | _, [] => []
  | at_, (width, lo, hi) :: rest => { offset := at_, width, lo, hi } :: layOut (at_ + width) rest

/-- The clamped values of some settings, in order. -/
def valuesOf (ds : List Setting) (image : List Byte) : List Int := ds.map fun d => d.value image

/-- How many of some settings the clamp changes. -/
def changedIn (ds : List Setting) (image : List Byte) : Nat := (ds.map fun d => d.changed image).sum

/-- The rectifier table, in image order: Vset, Vmin, Vmax, D, Kp, Ki, alpha_min, alpha_max, Ilim G1, Ilim G2, Igfault,
Irated, W, Vwake, Tstep, Tmax, Bband, Tdw. -/
def rectifierTable : List Setting :=
  layOut 75
    [(2, 5000, 9000), (2, 5000, 9000), (2, 5000, 9000), (2, 0, 200), (2, 0, 1024), (2, 0, 256), (2, 50, 300),
     (2, 900, 1500), (2, 500, 8000), (2, 500, 8000), (2, 1000, 12000), (2, 1000, 10000), (2, 50, 300),
     (2, 5000, 8000), (2, 1, 50), (2, 0, 300), (2, 5, 100), (2, 500, 10000)]

/-- The feeder table of a block, in image order: Imax, Dstart, Dend, DeltaTrip, Trise, Vlow, Tlow, Vsupply_min, Topen,
Tclose, Ioff, Nmax, Tdead, Ttest, Ktest, Vlive, Tfollow, Treclaim, section id, far station, far feeder. The upper end of
Dend is the cross-setting clamp of R184. -/
def feederTable (block : Nat) : List Setting :=
  layOut (block + 1)
    [(2, 1000, 12000), (2, 5, 500), (2, 1, 65535), (2, 200, 8000), (2, 10, 1000), (2, 1000, 7000), (2, 20, 5000),
     (2, 3000, 8000), (2, 20, 200), (2, 50, 400), (2, 10, 500), (1, 0, 3), (2, 500, 60000), (2, 200, 3000),
     (1, 64, 240), (2, 1000, 8000), (4, 5000, 120000), (4, 5000, 600000), (2, 1, 999), (1, 0, 250), (1, 1, 4)]

/-- The numeric timebase settings: Vnom, Vsq, Thold. -/
def timebaseTable : List Setting := layOut 64 [(2, 2000, 8000), (2, 500, 6000), (2, 20, 500)]

/-- Tstale. -/
def peerTable : List Setting := layOut 283 [(2, 300, 2000)]

/-- The gain of a lane. -/
def gainSetting (l : Lane) : Setting := { offset := 7 + 4 * l.val, width := 2, lo := 1, hi := 65535 }

/-- The offset of a lane, which is signed. -/
def laneOffset (image : List Byte) (l : Lane) : Int :=
  (BitVec.ofNat 16 (imageNat image (9 + 4 * l.val) 2)).toInt

/-- The block of a feeder (section 11.2). -/
def feederBlock (f : Feeder) : Nat := 111 + 43 * f.val

/-- The block of an input (section 11.2). -/
def inputBlock (i : Input) : Nat := 285 + 5 * i.val

/-- The debounce time of an input, and its alarm priority. -/
def inputTable (i : Input) : List Setting :=
  [{ offset := inputBlock i + 1, width := 1, lo := 1, hi := 100 },
   { offset := inputBlock i + 4, width := 1, lo := 0, hi := 15 }]

/-! ### Enumerated settings (R184) -/

/-- The source of a code; a code of 0 or above 3 names none (section 11.2, R184). -/
def sourceOf (code : Nat) : Option Source :=
  match code with
  | 1 => some 0
  | 2 => some 1
  | 3 => some 2
  | _ => none

/-- The three source codes of the preference list. -/
def prefCodes (image : List Byte) : List Nat := [imageNat image 70 1, imageNat image 71 1, imageNat image 72 1]

/-- The preference list, each source at its first place (R184). -/
def prefList (image : List Byte) : List Source := ((prefCodes image).filterMap sourceOf).eraseDups

/-- The changes the clamp makes to the preference list: codes above 3, and places left out (R184). -/
def prefChanges (image : List Byte) : Nat :=
  (prefCodes image).countP (fun c => decide (3 < c)) +
    (((prefCodes image).filterMap sourceOf).length - (prefList image).length)

/-- The nominal frequency: any other than 50 or 60 becomes 50 (R184). -/
def frequencyOf (image : List Byte) : Nat := if imageNat image 63 1 = 60 then 60 else 50

/-- The role code and the role target of an input. -/
def roleCode (image : List Byte) (i : Input) : Nat := imageNat image (inputBlock i + 2) 1

def roleTarget (image : List Byte) (i : Input) : Nat := imageNat image (inputBlock i + 3) 1

/-- The role of an input: a code above 4 becomes NONE, and a target is clamped to its range (R184). -/
def roleOf (code target : Nat) : InputRole :=
  match code with
  | 1 => .alarm
  | 2 => .interlock ⟨min 3 (target - 1), by omega⟩
  | 3 => .groupBlock ⟨min 1 (target - 1), by omega⟩
  | 4 => .door
  | _ => .none

/-- 1 if the clamp changes the role code or the role target (R184). -/
def roleChanges (code target : Nat) : Nat :=
  match code with
  | 2 => if 1 ≤ target ∧ target ≤ 4 then 0 else 1
  | 3 => if 1 ≤ target ∧ target ≤ 2 then 0 else 1
  | c => if 4 < c then 1 else 0

/-! ### The image copy (R183, R184) -/

/-- A clamped value by its place in a table. -/
def pick (vs : List Int) (n : Nat) : Int := vs.getD n 0

def imageTimebase (image : List Byte) : TimebaseSettings :=
  let v := valuesOf timebaseTable image
  { frequency := frequencyOf image, vnom := pick v 0, vsq := pick v 1, thold := (pick v 2).toNat,
    prefs := prefList image, invert := #v[imageBit image 73 0, imageBit image 73 1, imageBit image 73 2] }

/-- The cross-setting clamps of Vmax and Vset (R184). -/
def crossVmax (vmin vmax : Int) : Int := max vmin vmax

def imageRectifier (image : List Byte) : RectifierSettings :=
  let v := valuesOf rectifierTable image
  let vmin := pick v 1
  let vmax := crossVmax vmin (pick v 2)
  { enabled := #v[imageBit image 74 0, imageBit image 74 1],
    vset := clampInt vmin vmax (pick v 0), vmin, vmax, droop := pick v 3, kp := pick v 4, ki := pick v 5,
    alphaMin := pick v 6, alphaMax := pick v 7, ilim := #v[pick v 8, pick v 9], igfault := pick v 10,
    irated := pick v 11, pulseWidth := pick v 12, vwake := pick v 13, tstep := pick v 14, tmax := pick v 15,
    bband := pick v 16, tdw := (pick v 17).toNat }

def imageFeeder (image : List Byte) (f : Feeder) : FeederSettings :=
  let block := feederBlock f
  let v := valuesOf (feederTable block) image
  { enabled := imageBit image block 0, observe := imageBit image block 1, liveLineAllowed := imageBit image block 2,
    imax := pick v 0, dstart := pick v 1, dend := min (pick v 2) (pick v 1), deltaTrip := pick v 3,
    trise := (pick v 4).toNat, vlow := pick v 5, tlow := (pick v 6).toNat, vsupplyMin := pick v 7,
    topen := (pick v 8).toNat, tclose := (pick v 9).toNat, ioff := pick v 10, nmax := (pick v 11).toNat,
    tdead := (pick v 12).toNat, ttest := (pick v 13).toNat, ktest := pick v 14, vlive := pick v 15,
    tfollow := (pick v 16).toNat, treclaim := (pick v 17).toNat, sectionId := BitVec.ofNat 16 (pick v 18).toNat,
    farStation := byteOf (pick v 19).toNat, farFeeder := byteOf (pick v 20).toNat }

def imageInput (image : List Byte) (i : Input) : InputSettings :=
  let v := valuesOf (inputTable i) image
  let block := inputBlock i
  { inverted := imageBit image block 0, risingAlarm := imageBit image block 1, fallingAlarm := imageBit image block 2,
    debounce := (pick v 0).toNat, role := roleOf (roleCode image i) (roleTarget image i),
    priority := (pick v 1).toNat }

def imageLane (image : List Byte) (l : Lane) : LaneSettings :=
  { gain := (gainSetting l).value image, offset := saturate (laneOffset image l) }

/-- The settings of an accepted image after clamping (R184). -/
def imageSettings (image : List Byte) : Settings :=
  { gateway1 := imageByte image 4, gateway2 := imageByte image 5,
    portEnabled := #v[imageBit image 6 0, imageBit image 6 1], junction := imageBit image 6 2,
    loopMark := imageBit image 6 3, lanes := Vector.ofFn (imageLane image), timebase := imageTimebase image,
    rectifier := imageRectifier image, feeders := Vector.ofFn (imageFeeder image),
    tstale := (pick (valuesOf peerTable image) 0).toNat, inputs := Vector.ofFn (imageInput image) }

/-! ### The clamp count (R184) -/

def laneChanges (image : List Byte) (l : Lane) : Nat :=
  (gainSetting l).changed image + (if saturate (laneOffset image l) = laneOffset image l then 0 else 1)

def timebaseChanges (image : List Byte) : Nat :=
  (if imageNat image 63 1 = 50 ∨ imageNat image 63 1 = 60 then 0 else 1) + changedIn timebaseTable image +
    prefChanges image

/-- The changes to the rectifier settings, the cross-setting clamps among them. -/
def rectifierChanges (image : List Byte) : Nat :=
  let v := valuesOf rectifierTable image
  let vmin := pick v 1
  let vmax := crossVmax vmin (pick v 2)
  changedIn rectifierTable image + (if vmax = pick v 2 then 0 else 1) +
    (if clampInt vmin vmax (pick v 0) = pick v 0 then 0 else 1)

/-- The changes to a feeder's settings, the cross-setting clamp of Dend among them. -/
def feederChanges (image : List Byte) (f : Feeder) : Nat :=
  let v := valuesOf (feederTable (feederBlock f)) image
  changedIn (feederTable (feederBlock f)) image + (if pick v 1 < pick v 2 then 1 else 0)

def inputChanges (image : List Byte) (i : Input) : Nat :=
  changedIn (inputTable i) image + roleChanges (roleCode image i) (roleTarget image i)

/-- The clamp count of an image, saturating at 255 (R184). -/
def clampCount (image : List Byte) : Nat :=
  min 255
    (((List.finRange 14).map (laneChanges image)).sum + timebaseChanges image + rectifierChanges image +
      ((List.finRange 4).map (feederChanges image)).sum + changedIn peerTable image +
      ((List.finRange 12).map (inputChanges image)).sum)

end Sys2Proof.Machine
end

