-- ==== Sys2Proof/Machine/Timebase.lean ====
section
/-! DEFINITION. The Supply Timebase (Chapter 2): pacing of the phase, zero crossings, amplitude and squelch, and the
tracker. -/

namespace Sys2Proof.Machine

/-! ### Phase and pacing (section 2.4) -/

/-- Delta of a period estimate in 1/16 us (R21). P is never 0 in a run (log 24). -/
def phaseStep (period : Int) : Int := floorDiv 377487360000 period

/-- The range of P and of the periods the tracker takes (R21). -/
def validPeriod (p : Int) : Bool := decide (246154 ≤ p) && decide (p ≤ 355556)

/-- The phase advances by so many steps (R21). -/
def State.advance (s : State) (steps : Int) : State :=
  let step := phaseStep s.st.period
  { s with
    st := { s.st with phase := (s.st.phase + steps * step) % cycle, stepInUse := step, lastStep := s.clock } }

/-- A lane is silent while its silence timer is stopped: from reset until its first arrival, and from each expiry of the
timer until the next arrival (R21). -/
def State.silent (s : State) (l : Lane) : Bool := (s.lane l).silence.isNone

/-- The pacing lane: the first not silent among the lane of the active source and the lanes of the ranked sources (R21). -/
def State.pacer (s : State) : Option Source :=
  (s.st.active.toList ++ s.ranked).find? fun src => !s.silent (sourceLane src)

/-- The pacing lane is chosen anew; with none, the step timer paces (R21). In OFF nothing paces. -/
def State.choosePacing (s : State) : State :=
  match s.st.tracker with
  | .off => s
  | _ =>
    match s.pacer with
    | some src => { s with st := { s.st with pacing := some src, stepTimer := none } }
    | none =>
      { s with
        st :=
          { s.st with
            pacing := none,
            stepTimer :=
              match s.st.stepTimer with
              | some d => some d
              | none => s.after 100 } }

/-- A change of the active source, which chooses the pacing lane anew (R21). -/
def State.setActive (s : State) (a : Option Source) : State :=
  { s with st := { s.st with active := a } }.choosePacing

/-- The step timer expires while it paces (R21). -/
def State.stepTick (s : State) : State :=
  let s := s.advance 1
  { s with st := { s.st with stepTimer := s.after 100 } }

/-! ### Sources (section 2.1) -/

def State.clearSource (s : State) (src : Source) : Bool := !(s.source src).squelched

/-- The first CLEAR source in preference order (R25). -/
def State.firstClear (s : State) : Option Source := s.ranked.find? s.clearSource

/-- The next CLEAR source after the active one in preference order, counting round to the active one itself (R25, R27,
R29, R30). -/
def State.nextClear (s : State) : Option Source :=
  match s.st.active with
  | none => s.firstClear
  | some a => ((s.ranked.dropWhile (· != a)).drop 1 ++ s.ranked.takeWhile (· != a) ++ [a]).find? s.clearSource

/-- The phase offset of a source (section 2.1). -/
def State.offset (s : State) (src : Source) : Int :=
  (1200 * src.val + (if s.settings.timebase.invert[src] then 1800 else 0) : Nat) % 3600

/-! ### Given amplitude and state changes (section 2.6) -/

/-- The given Vamp takes a value, and at a change SUPPLY is evaluated (R33). -/
def State.giveVamp (s : State) (v : Int) : State :=
  if v = s.st.vamp then s
  else
    let s := { s with st := { s.st with vamp := v } }
    if vd0Of v < 1000 then s.putCauses .supply true
    else if 1500 ≤ vd0Of v then s.putCauses .supply false
    else s

/-- The tracker states in which TIMEBASE is present (R32). -/
def Tracker.holdsTimebase : Tracker → Bool
  | .locked => false
  | .holdover => false
  | _ => true

/-- A tracker state change: TIMEBASE follows it, and TIMEBASE STATE is raised, with TIMEBASE FAULT after it on entry into
FAULT (R32, R34; the order of the two alarms is DESIGN CHOICE, log 59, and so is TIMEBASE before them, log 63). -/
def State.setTracker (s : State) (t : Tracker) : State :=
  let s := { s with st := { s.st with tracker := t } }.putCauses .timebase t.holdsTimebase
  let s := s.alarm .timebaseState .station none t.code.toNat
  if t = .fault then s.alarm .timebaseFault .station none s.st.failures else s

/-- Entry into SEEK (R25). The timers of the state left are stopped (log 16). -/
def State.enterSeek (s : State) : State :=
  let s :=
    { s with
      st :=
        { s.st with
          window := [], stepLoss := 0, goodCrossings := 0, seekTimer := s.after (1000 * msec), holdoverTimer := none,
          retryTimer := none } }.setTracker .seek
  s.setActive s.firstClear

/-- Entry into FAULT (R31). -/
def State.enterFault (s : State) : State :=
  let s := { s with st := { s.st with seekTimer := none, retryTimer := s.after (10000 * msec) } }.setActive none
  s.setTracker .fault

/-- Entry into HOLDOVER at the squelch of the active source (R29). -/
def State.enterHoldover (s : State) : State :=
  let s :=
    { s with
      st :=
        { s.st with
          stepLoss := 0, goodCrossings := 0,
          holdoverTimer := s.after (s.settings.timebase.thold * msec) } }.setActive s.nextClear
  s.setTracker .holdover

/-- Entry into LOCKED (R26, R30): the given Vamp becomes the active source's last amplitude at once (R33),
before the tracker state changes (DESIGN CHOICE, log 63). -/
def State.enterLocked (s : State) (src : Source) : State :=
  let s := { s with st := { s.st with stepLoss := 0, seekTimer := none, holdoverTimer := none } }
  (s.giveVamp (s.source src).amplitude).setTracker .locked

/-! ### Squelch and clear (section 2.3) -/

/-- The tracker is handed the squelch of a source (R25, R29, R30). -/
def State.trackerLoses (s : State) (src : Source) : State :=
  if s.st.active = some src then
    match s.st.tracker with
    | .seek => { s with st := { s.st with window := [] } }.setActive s.nextClear
    | .locked => s.enterHoldover
    | .holdover => { s with st := { s.st with goodCrossings := 0 } }.setActive s.nextClear
    | _ => s
  else s

/-- The tracker is handed a source that has become CLEAR (R25, R30). -/
def State.trackerGains (s : State) (src : Source) : State :=
  match s.st.active, s.st.tracker with
  | none, .seek => { s with st := { s.st with window := [] } }.setActive (some src)
  | none, .holdover => { s with st := { s.st with goodCrossings := 0 } }.setActive (some src)
  | _, _ => s

/-- A source becomes SQUELCHED, if it was CLEAR (R19). -/
def State.squelch (s : State) (src : Source) : State :=
  if (s.source src).squelched then s
  else (s.modSource src fun r => { r with squelched := true }).trackerLoses src

/-- A source becomes CLEAR (R20). -/
def State.unsquelch (s : State) (src : Source) : State :=
  (s.modSource src fun r => { r with squelched := false }).trackerGains src

/-- The crossing watch timer expires (R19). -/
def State.watchEnds (s : State) (src : Source) : State :=
  (s.modSource src fun r =>
    { r with watch := none, lowCount := 0, goodCount := 0, halfOpen := false }).squelch src

/-- An AC lane goes STALE (R15, R19). Its open half cycle no longer counts (log 14). -/
def State.sourceStale (s : State) (src : Source) : State :=
  (s.modSource src fun r => { r with lowCount := 0, goodCount := 0, counts := false }).squelch src

/-- The counts after a half cycle of an amplitude (R18). -/
def SourceRec.counted (r : SourceRec) (vsq amplitude : Int) : SourceRec :=
  if !r.counts then { r with lowCount := 0, goodCount := 0 }
  else if amplitude < vsq then { r with lowCount := min 2 (r.lowCount + 1), goodCount := 0 }
  else if amplitude < vsq + vsq / 8 then { r with lowCount := 0, goodCount := 0 }
  else { r with lowCount := 0, goodCount := min 4 (r.goodCount + 1) }

/-- The half cycle closes at a crossing (R18). -/
def SourceRec.closeHalf (r : SourceRec) (vsq : Int) : SourceRec :=
  if r.halfOpen then { r with amplitude := r.peak * 181 / 256 }.counted vsq (r.peak * 181 / 256) else r

/-- 1.5 nominal periods in us (R18). -/
def State.watchTime (s : State) : Nat := if s.settings.timebase.frequency = 60 then 25000 else 30000

/-- A crossing of either direction in the amplitude and squelch rules (R18, R19, R20, R33). -/
def State.crossAmplitude (s : State) (src : Source) (sample : Int) : State :=
  let wasOpen := (s.source src).halfOpen
  let fresh := s.laneFresh (sourceLane src)
  let s :=
    s.modSource src fun r =>
      { r.closeHalf s.settings.timebase.vsq with
        halfOpen := true, peak := magnitude sample, counts := fresh, watch := s.after s.watchTime }
  let r := s.source src
  let given := wasOpen && s.st.active == some src && (s.st.tracker == .seek || s.st.tracker == .locked)
  let s := if given then s.giveVamp r.amplitude else s
  if wasOpen && !r.squelched && r.lowCount == 2 then s.squelch src
  else if wasOpen && r.squelched && r.goodCount == 4 then s.unsquelch src
  else s

/-! ### The tracker at a positive crossing (section 2.5) -/

/-- A positive crossing (R17, R22): its fraction f, its span m, and the measured period if there is one. -/
structure Crossing where
  fraction : Int
  span : Int
  period : Option Int
  deriving DecidableEq, Repr

/-- How far the phase has moved since the crossing, in fractional units, for a given Delta (R26, R28). -/
def Crossing.since (c : Crossing) (step : Int) : Int := (65536 - c.fraction) * c.span * step / 65536

/-- The phase error e of a crossing (R28). The phase as it stands is the phase of the last pacing step, also at a crossing
on a lane that does not pace (DESIGN CHOICE, log 58). -/
def State.phaseError (s : State) (src : Source) (c : Crossing) : Int :=
  let at_ := (s.st.phase - c.since (phaseStep s.st.period)) % cycle / 65536
  (s.offset src - at_ + 1800) % 3600 - 1800

/-- The seek succeeds (R26). -/
def State.seekSucceeds (s : State) (src : Source) (c : Crossing) (window : List Int) : State :=
  let period := window.sum / 3
  let phase := (s.offset src * 65536 + c.since (phaseStep period)) % cycle
  let s := { s with st := { s.st with window, period, phase, failures := 0 } }.phaseChanged
  s.enterLocked src

/-- Three periods pass when the largest less the smallest is no more than floor(smallest / 100) (R25). -/
def consistent (window : List Int) : Bool :=
  match window.max?, window.min? with
  | some hi, some lo => decide (hi - lo ≤ lo / 100)
  | _, _ => false

/-- A positive crossing of the active source in SEEK (R25). -/
def State.seekCrossing (s : State) (src : Source) (c : Crossing) : State :=
  match c.period with
  | some p =>
    if validPeriod p then
      let window := s.st.window ++ [p]
      if window.length < 3 then { s with st := { s.st with window } }
      else if consistent window then s.seekSucceeds src c window
      else { s with st := { s.st with window := window.drop 1 } }
    else { s with st := { s.st with window := [] } }
  | none => { s with st := { s.st with window := [] } }

/-- Steps 3 and 4 of R28 for a phase error. -/
def State.correctPhase (s : State) (e : Int) : State :=
  let s := { s with st := { s.st with phase := (s.st.phase + e / 4 * 65536) % cycle } }.phaseChanged
  if 50 < magnitude e then
    let s := { s with st := { s.st with stepLoss := s.st.stepLoss + 1 } }
    if 3 ≤ s.st.stepLoss then s.enterSeek else s
  else { s with st := { s.st with stepLoss := 0 } }

/-- Steps 2 to 4 of R28 for a phase error. A new P outside its range is not kept (log 41). -/
def State.followCrossing (s : State) (c : Crossing) (e : Int) : State :=
  match c.period with
  | some p =>
    let period := s.st.period + (p - s.st.period) / 8
    if validPeriod period then { s with st := { s.st with period } }.correctPhase e else s.enterSeek
  | none => s.correctPhase e

/-- A positive crossing of the active source in HOLDOVER (R30). -/
def State.holdoverCrossing (s : State) (src : Source) (c : Crossing) : State :=
  let e := s.phaseError src c
  if 50 < magnitude e then s.enterSeek
  else if s.st.goodCrossings = 0 then { s with st := { s.st with goodCrossings := 1 } }
  else ({ s with st := { s.st with goodCrossings := 2 } }.enterLocked src).followCrossing c e

/-- A positive crossing passed to the tracker (section 2.5): only those of the active source matter. -/
def State.trackCrossing (s : State) (src : Source) (c : Crossing) : State :=
  if s.st.active = some src then
    match s.st.tracker with
    | .seek => s.seekCrossing src c
    | .locked => s.followCrossing c (s.phaseError src c)
    | .holdover => s.holdoverCrossing src c
    | _ => s
  else s

/-! ### Detectors (section 2.2) -/

/-- The hysteresis Vhyst (R17). -/
def hysteresis (vnom : Int) : Int := vnom * 362 / 256 / 20

/-- The detectors are armed by a valid sample (R17). -/
def SourceRec.arm (r : SourceRec) (vhyst sample : Int) : SourceRec :=
  { r with
    posArmed := r.posArmed || decide (sample < -vhyst), negArmed := r.negArmed || decide (vhyst < sample) }

/-- The direction of a crossing. -/
inductive Edge
  | positive
  | negative
  deriving DecidableEq, Repr

/-- The crossing that a valid sample makes against the previous valid one, if any (R17). -/
def SourceRec.crosses (r : SourceRec) (sample : Int) : Option Edge :=
  match r.prev with
  | none => none
  | some p =>
    if r.posArmed ∧ p < 0 ∧ 0 ≤ sample then some .positive
    else if r.negArmed ∧ 0 ≤ p ∧ sample < 0 then some .negative
    else none

/-- The positive crossing that a valid sample makes (R17, R22). The divisor is above 0, because the previous sample lies
below the new one. -/
def SourceRec.crossing (r : SourceRec) (sample : Int) : Crossing :=
  let p := r.prev.getD 0
  let fraction := floorDiv (-p * 65536) (sample - p)
  { fraction, span := 1 + r.invalidSince,
    period := r.sinceCrossing.map fun k => k * 1600 + (fraction - r.fraction) * 1600 / 65536 }

/-- After a valid sample it is the previous one (R17). -/
def State.keepSample (s : State) (src : Source) (sample : Int) : State :=
  s.modSource src fun r => { r with prev := some sample, invalidSince := 0 }

/-- A positive crossing: the amplitude rules, then the tracker if the source is CLEAR (R17). -/
def State.positiveCrossing (s : State) (src : Source) (sample : Int) : State :=
  let c := (s.source src).crossing sample
  let s :=
    s.modSource src fun r =>
      { r with
        posArmed := false, sinceCrossing := some 0, fraction := c.fraction, prev := some sample, invalidSince := 0 }
  let s := s.crossAmplitude src sample
  if s.clearSource src then s.trackCrossing src c else s

/-- A negative crossing (R17, R18). -/
def State.negativeCrossing (s : State) (src : Source) (sample : Int) : State :=
  ((s.modSource src fun r => { r with negArmed := false }).keepSample src sample).crossAmplitude src sample

/-- A valid sample of a ranked source in the detectors (R17, R18). -/
def State.detect (s : State) (src : Source) (sample : Int) : State :=
  let s := s.modSource src fun r => r.arm (hysteresis s.settings.timebase.vnom) sample
  match (s.source src).crosses sample with
  | some .positive => s.positiveCrossing src sample
  | some .negative => s.negativeCrossing src sample
  | none =>
    (s.modSource src fun r =>
      { r with peak := if r.halfOpen then max r.peak (magnitude sample) else r.peak }).keepSample src sample

/-- An arrival on the lane of a ranked source: pacing, then the detectors (R21, R17). `wasSilent` says that the lane was
silent before it. An arrival that has just made the pacing lane STALE finds the pacing moved on, and is no pacing step
(log 49). -/
def State.sourceArrival (s : State) (src : Source) (valid wasSilent : Bool) : State :=
  let s := if s.st.tracker != .off && s.st.pacing == some src then s.advance 1 else s
  let s := if wasSilent then s.choosePacing else s
  let s := s.modSource src fun r => { r with sinceCrossing := r.sinceCrossing.map (· + 1) }
  if valid then s.detect src (s.lane (sourceLane src)).value
  else s.modSource src fun r => { r with invalidSince := countUpTo 65535 r.invalidSince }

/-- A silence declaration on the lane of a ranked source (R21, R22). On the pacing lane three steps are added first. -/
def State.sourceSilent (s : State) (src : Source) : State :=
  let s := s.modSource src fun r => { r with sinceCrossing := none }
  let s := if s.st.tracker != .off && s.st.pacing == some src then (s.advance 3).phaseChanged else s
  s.choosePacing

/-! ### Timers of the tracker (section 2.5) -/

/-- The seek timer expires (R27). -/
def State.seekEnds (s : State) : State :=
  let s := { s with st := { s.st with failures := countUpTo 255 s.st.failures } }
  if 5 ≤ s.st.failures then s.enterFault
  else { s with st := { s.st with window := [], seekTimer := s.after (1000 * msec) } }.setActive s.nextClear

end Sys2Proof.Machine
end

