-- ==== Sys2Proof/Machine/Lanes.lean ====
section
/-! DEFINITION. Lane Intake (Chapter 1): scaling, lane health, the derived quantities, and what a health change and a
sample notice do in each block. -/

namespace Sys2Proof.Machine

/-! ### Scaling and the lane record (sections 1.2 and 1.3) -/

/-- The raw code -32768 marks an invalid sample (R2). -/
def validCode (raw : Word16) : Bool := raw != 32768

/-- The engineering value of a valid raw code (R2). -/
def scaleCode (c : LaneSettings) (raw : Int) : Int := saturate (raw * c.gain / 65536 + c.offset)

/-- The value a lane takes from a valid sample; 0 until the lane settings are handed over (R1, R2). -/
def State.scaled (s : State) (l : Lane) (raw : Word16) : Int :=
  match s.cl.settings with
  | some c => scaleCode c.lanes[l] raw.toInt
  | none => 0

/-- A lane record after a valid sample (R4). -/
def LaneRec.good (r : LaneRec) (value : Int) : LaneRec :=
  { r with
    value, invalidRun := 0, goodRun := min 8 (r.goodRun + 1),
    health := if 8 ≤ r.goodRun + 1 then .fresh else r.health }

/-- A lane record after an invalid sample (R3). -/
def LaneRec.bad (r : LaneRec) : LaneRec :=
  { r with
    goodRun := 0, invalidRun := min 3 (r.invalidRun + 1),
    health := if 3 ≤ r.invalidRun + 1 then .stale else r.health }

/-- An arrival in the lane record: the sample, and the silence timer restarted (R3, R4, R5). -/
def State.takeArrival (s : State) (l : Lane) (raw : Word16) : State :=
  let r := s.lane l
  let r := if validCode raw then r.good (s.scaled l raw) else r.bad
  s.setLane l { r with silence := s.after 300 }

/-! ### Derived quantities (section 1.4) -/

/-- A group lane's part of Ibus (R6). -/
def State.busPart (s : State) (l : Lane) : Int := if s.laneFresh l then (s.lane l).value else 0

/-- Ibus is formed anew, and the load index from it (R6, R157). -/
def State.formIbus (s : State) : State :=
  { s with li := { s.li with ibus := saturate (s.busPart 9 + s.busPart 10) } }.formLoad

/-- di of a feeder is formed at an arrival on its current lane; it stays 0 until the hand-over, and the first scaled
arrival gives 0 (R7). The first scaled arrival is the first valid one after the hand-over (DEDUCED, log 62). -/
def State.formDi (s : State) (f : Feeder) (valid : Bool) : State :=
  let v := s.current f
  let first := !s.li.primed[f]
  let scaledNow := valid && s.handedOver
  let di := if first then 0 else saturate (v - s.li.prev[f])
  { s with
    li :=
      { s.li with
        di := s.li.di.set f di, prev := s.li.prev.set f v,
        primed := s.li.primed.set f (s.li.primed[f] || scaledNow) } }

/-- The derived quantity of a lane, if it has one. -/
def State.derive (s : State) (l : Lane) (valid : Bool) : State :=
  match laneUse l with
  | .current f => s.formDi f valid
  | .group _ => s.formIbus
  | _ => s

/-! ### Health changes (sections 1.5 and 1.6) -/

/-- A lane is in use unless the image leaves every block that would read it without work (R9). -/
def State.laneInUse (s : State) (l : Lane) : Bool :=
  match laneUse l with
  | .busbar => true
  | .current f => s.feederEnabled f
  | .line f => s.feederEnabled f
  | .group g => (s.group g).state != .off
  | .source src => s.ranked.contains src

/-- LANE STALE, once the lane settings have been handed over and for a lane in use (R9): detail 1 invalid samples, 2 no
arrival, 3 not fresh at start. -/
def State.raiseStale (s : State) (l : Lane) (detail : Int) : State :=
  if s.handedOver && s.laneInUse l then s.alarm .laneStale (.lane l) none detail else s

/-- MEASURE of a group follows the health of L0 and of its current lane (R14). -/
def State.judgeMeasure (g : Group) (s : State) : State :=
  s.putCause .measure (!(s.laneFresh 0 && s.laneFresh (groupLane g))) g

/-- The health of L0 has changed (R12, R13, R14). -/
def State.busbarHealth (s : State) : State :=
  let stale := !s.laneFresh 0
  let s := if stale then forFeeders State.stopLowv s else s
  let s := forGroups State.judgeMeasure (forFeeders State.judgeLaneHold s)
  if stale then { s with fc := { s.fc with wakeTimer := none } } else s

/-- The health of Lf has changed (R10, R13, R85). The LANE decision comes first and the judgement of a trip last, so a trip
that it starts can complete at the same change (DESIGN CHOICE, log 74). -/
def State.currentHealth (s : State) (f : Feeder) : State :=
  let s := if s.laneFresh (currentLane f) then s else s.currentLost f
  State.judgeTrip f (State.judgeLaneHold f s)

/-- The health of L(4+f) has changed (R12, R13). -/
def State.lineHealth (s : State) (f : Feeder) : State :=
  let s :=
    if s.laneFresh (lineLane f) then s
    else State.stopLowv f (s.modFeeder f fun r => { r with live := .stopped })
  State.judgeLaneHold f s

/-- The health of L(8+g) has changed (R14). -/
def State.groupHealth (s : State) (g : Group) : State :=
  let s := State.judgeMeasure g s
  if s.laneFresh (groupLane g) then s else s.modGroup g fun r => { r with limited := false, overRun := 0 }

/-- The health of an AC lane has changed (R15). -/
def State.sourceHealth (s : State) (src : Source) : State :=
  if s.laneFresh (sourceLane src) then s else s.sourceStale src

/-- A health change is handed to the blocks that use the lane (section 1.6). -/
def State.healthChanged (s : State) (l : Lane) : State :=
  match laneUse l with
  | .busbar => s.busbarHealth
  | .current f => s.currentHealth f
  | .line f => s.lineHealth f
  | .group g => s.groupHealth g
  | .source src => s.sourceHealth src

/-- A lane's health after an event, with the alarm and the effects of a change; `was` is its health before (R8, R9,
log 11). -/
def State.handHealth (s : State) (l : Lane) (was : Health) (detail : Int) : State :=
  if (s.lane l).health = was then s
  else
    let s := if was = .fresh then s.raiseStale l detail else s
    s.healthChanged l

/-! ### Sample notices (R8) -/

/-- A valid sample notice of L0 (R68, R104, R116, R56). -/
def State.busbarNotice (s : State) : State :=
  let s := forFeeders State.watchLowv s
  let s := if s.laneFresh 0 then forFeeders State.judgeSupply s else s
  let s := forFeeders State.judgeAgreement s
  if s.laneFresh 0 then s.watchBusbar else s

/-- A sample notice of Lf (R11, R75, R85). -/
def State.currentNotice (s : State) (f : Feeder) (valid : Bool) : State :=
  State.judgeTrip f (s.protCurrent f valid)

/-- A valid sample notice of L(4+f) (R68, R69, R110, R116). -/
def State.lineNotice (s : State) (f : Feeder) : State :=
  let s := State.watchLowv f (State.rearmLowv f s)
  let s := if s.laneFresh (lineLane f) then State.watchLive f s else s
  State.judgeAgreement f s

/-- A valid sample notice of L(8+g) (R41). -/
def State.groupNotice (s : State) (g : Group) : State :=
  if s.laneFresh (groupLane g) then State.judgeOvercurrent g s else s

/-- A sample notice is handed to the blocks that use the lane (R8). The Supply Timebase takes the lanes of ranked sources
alone (section 2.1). -/
def State.notice (s : State) (l : Lane) (valid wasSilent : Bool) : State :=
  match laneUse l with
  | .busbar => if valid then s.busbarNotice else s
  | .current f => s.currentNotice f valid
  | .line f => if valid then s.lineNotice f else s
  | .group g => if valid then s.groupNotice g else s
  | .source src => if s.ranked.contains src then s.sourceArrival src valid wasSilent else s

/-! ### Arrivals and silence (R3, R4, R5) -/

/-- A sample arrives on a lane. A health change is handed over before the notice of its arrival (R8; the model's choice,
log 49), and after di or Ibus is formed (log 72). -/
def State.arrive (s : State) (l : Lane) (raw : Word16) : State :=
  let was := (s.lane l).health
  let wasSilent := s.silent l
  let valid := validCode raw
  ((((s.takeArrival l raw).derive l valid).handHealth l was 1).notice l valid wasSilent)

/-- The silence of an AC lane reaches the Supply Timebase whatever the lane's health; the silence of a group lane may
change Ibus (R5, R6). -/
def State.silenceDerived (s : State) (l : Lane) (was : Health) : State :=
  match laneUse l with
  | .source src => if s.ranked.contains src then s.sourceSilent src else s
  | .group _ => if was = .fresh then s.formIbus else s
  | _ => s

/-- The silence timer of a lane expires (R5). What the silence derives, Ibus and the load index among it, comes before the
alarm and the blocks' effects (DESIGN CHOICE, log 72). -/
def State.fallSilent (s : State) (l : Lane) : State :=
  let r := s.lane l
  let s := s.setLane l { r with goodRun := 0, silence := none, health := .stale }
  (s.silenceDerived l r.health).handHealth l r.health 2

end Sys2Proof.Machine
end

