-- ==== Sys2Proof/Machine/Inputs.lean ====
section
/-! DEFINITION. The Input Monitor (Chapter 10): debounce, edges, change flags, alarms and roles. -/

namespace Sys2Proof.Machine

def State.inputSet (s : State) (i : Input) : InputSettings := s.settings.inputs[i]

/-- The level of an input from its raw contact as it stands, through its polarity (R175, R176). -/
def State.rawLevel (s : State) (i : Input) : Bool := activeLevel (s.inputSet i).inverted s.pins.inputs[i]

/-- The role effects as the levels stand: INTERLOCK on each feeder, then INPUT on each group (R180, R181). Where a
condition has not changed, nothing is handed over. -/
def State.roleEffects (s : State) : State :=
  let s := forFeeders (fun f s => s.setHold f .interlock (s.interlocked f)) s
  forGroups (fun g s => s.putCause .input (s.inputBlocked g) g) s

/-- INPUT CHANGE at the input's priority, where the edge's direction is enabled (R179). -/
def State.raiseInput (s : State) (i : Input) (active : Bool) : State :=
  let c := s.inputSet i
  if c.role != .none && (if active then c.risingAlarm else c.fallingAlarm) then
    s.raise
      { kind := .inputChange, object := .input i, priority := c.priority, cause := none,
        detail := some (if active then 1 else 0) }
  else s

/-- The roles that act on feeders or groups (section 10.5). -/
def roleActs : InputRole → Bool
  | .interlock _ => true
  | .groupBlock _ => true
  | .door => true
  | _ => false

/-- An edge of an input: its change flag, its role effect, its alarm (R177). -/
def State.inputEdge (s : State) (i : Input) (active : Bool) : State :=
  let s := s.modInput i fun r => { r with active, changed := true }
  let s := if roleActs (s.inputSet i).role then s.roleEffects else s
  s.raiseInput i active

/-- The debounce timer of an input expires (R176). -/
def State.debounceInput (s : State) (i : Input) : State :=
  let level := s.rawLevel i
  let s := s.modInput i fun r => { r with timer := none }
  if level = (s.input i).active then s else s.inputEdge i level

/-- The change flags named by a mask are cleared (R178). -/
def InputMonitor.cleared (m : InputMonitor) (mask : Word16) : InputMonitor :=
  { m with
    inputs := m.inputs.mapFinIdx fun n r _ => { r with changed := r.changed && !mask.getLsbD n } }

/-- The hand-over of the input settings: each level is set from its raw contact, with no edge (R175). -/
def State.inputLevels (s : State) : State :=
  { s with
    im :=
      { inputs := Vector.ofFn fun i => { active := s.rawLevel i, timer := none, changed := false } } }

end Sys2Proof.Machine
end

