-- ==== Sys2Proof/Machine/Commands.lean ====
section
/-! DEFINITION. The Report Controller's commands (section 9.6): their checks, their owners' answers, and the REPORT
frame. -/

namespace Sys2Proof.Machine

/-! ### REPORT (R168) -/

/-- The last-trip record of a feeder in a REPORT body (section 7.8). Bits 3 to 7 of its flags are 0 (DESIGN CHOICE,
log 70). -/
def LastTrip.info (t : LastTrip) : TripInfo :=
  { cause := t.cause.code,
    flags := byteOf (bit t.observed 0 + bit t.deltaI.isSome 1 + bit t.origin.isSome 2),
    time := BitVec.ofNat 32 t.time, peak := signed16 t.peak, deltaI := signed16 (t.deltaI.getD 0),
    vl := signed16 t.vl, origin := t.origin.getD 0, repeats := byteOf t.repeats }

/-- The last-trip record that a REPORT of an alarm carries (R168). -/
def State.reportedTrip (s : State) (e : Alarm) : Option TripInfo :=
  match e.object with
  | .feeder f => (s.prot f).record.map LastTrip.info
  | _ => none

/-- The body of a REPORT of an alarm as it stands (R168, log 23). Bits 3 to 7 of its presence byte are 0 (DESIGN CHOICE,
log 70). -/
def State.reportBody (s : State) (e : Alarm) : ReportBody :=
  { tag := e.tag.getD 0, kind := e.kind.code, objectClass := e.object.classCode, objectIndex := e.object.indexCode,
    priority := byteOf e.priority, hasCause := e.cause.isSome, hasDetail := e.detail.isSome, reserved := 0,
    cause := (e.cause.map Cause.code).getD 0, first := BitVec.ofNat 32 e.first, last := BitVec.ofNat 32 e.last,
    count := BitVec.ofNat 16 e.count, detail := signed16 (e.detail.getD 0), state := e.state.code,
    record := s.reportedTrip e }

/-- A REPORT of an entry, at NETWORK scope for both ports (R168). -/
def State.report (s : State) (e : Option Alarm) : State :=
  match e with
  | some e => s.originate (.report (s.reportBody e)) .network fun _ => true
  | none => s

/-! ### Answers of the owners -/

/-- ACCEPT (R167): the STATUS of a change of presentation comes before the REPORT (log 22). -/
def State.commandAccept (s : State) (tag : Byte) : State × CommandResult :=
  match s.rc.accept tag with
  | (rc, result, reported, n) => ((State.announce n { s with rc }).report reported, result)

/-- DONE (R169). -/
def State.commandDone (s : State) (tag : Byte) : State × CommandResult :=
  match s.rc.close tag with
  | (rc, result, n) => (State.announce n { s with rc }, result)

/-- SET FLOOR (R170). -/
def State.commandFloor (s : State) (arg : Word16) : State × CommandResult :=
  match s.rc.setFloor arg.toNat with
  | (rc, n) => (State.announce n { s with rc }, .done)

/-- WAKE (R59). -/
def State.commandWake (s : State) : State × CommandResult := (s.wake .command, .done)

/-- A command that names a feeder; a number outside 1 to 4 is BAD ARGUMENT (R173). -/
def State.forFeeder (s : State) (number : Byte) (act : State → Feeder → State × CommandResult) :
    State × CommandResult :=
  match feederOf number with
  | some f => act s f
  | none => (s, .badArgument)

/-- The group of a number 1 or 2. -/
def groupOf (n : Byte) : Option Group :=
  match n.toNat with
  | 1 => some 0
  | 2 => some 1
  | _ => none

/-- RESET GROUP; a number outside 1 and 2 is BAD ARGUMENT (R173, R42). -/
def State.commandResetGroup (s : State) (number : Byte) : State × CommandResult :=
  match groupOf number with
  | some g => s.resetFault g
  | none => (s, .badArgument)

/-- A command that has passed the check of its code is passed to its owner (R173). RESTART is answered by R174. -/
def State.perform (s : State) (k : Command) (b : CommandBody) : State × CommandResult :=
  match k with
  | .openFeeder => s.forFeeder b.number State.commandOpen
  | .closeFeeder => s.forFeeder b.number State.commandClose
  | .blockReclose => s.forFeeder b.number State.commandBlock
  | .unblockReclose => s.forFeeder b.number State.commandUnblock
  | .resetFeeder => s.forFeeder b.number State.commandReset
  | .resetGroup => s.commandResetGroup b.number
  | .setVoltage => (s.setVset b.arg.toNat, .done)
  | .standby => s.takeStandby
  | .wake => s.commandWake
  | .setFloor => s.commandFloor b.arg
  | .acceptAlarm => s.commandAccept b.tag
  | .alarmDone => s.commandDone b.tag
  | .clearInputFlags => ({ s with im := InputMonitor.cleared s.im b.arg }, .done)
  | .clearOverflow => ({ s with rc := { s.rc with overflow := false } }, .done)
  | .restart => (s, .done)

/-! ### Checks (R172, R173) -/

/-- The last command result is set (R173). -/
def State.setResult (s : State) (origin code : Byte) (result : CommandResult) : State :=
  { s with rc := { s.rc with lastResult := some { gateway := origin, code, result } } }

/-- The command reads a number, and it is outside the command's range (R173). -/
def Command.badNumber (k : Command) (number : Byte) : Bool :=
  match k with
  | .openFeeder => (feederOf number).isNone
  | .closeFeeder => (feederOf number).isNone
  | .blockReclose => (feederOf number).isNone
  | .unblockReclose => (feederOf number).isNone
  | .resetFeeder => (feederOf number).isNone
  | .resetGroup => (groupOf number).isNone
  | _ => false

/-- RESTART (R174, R187): the result is set, a STATUS originated, and the restart timer started. A further RESTART does
not restart the timer. The scope of the STATUS is that of any other (R140; the model's choice, log 55). -/
def State.takeRestart (s : State) (origin code : Byte) : State :=
  let first := s.cl.restartTimer.isNone
  let s := s.setResult origin code .done
  let s :=
    s.originateWith State.announce (.status (s.statusBody none)) s.statusScope (fun _ => true) first
  if first then { s with cl := { s.cl with restartTimer := s.after (20 * msec) } } else s

/-- A command that passes the checks of the target and the origin (R173; R172 in CONFIG FAULT). The result is set when
the owner has acted, so a STATUS that the act originates carries the result before it (log 54). -/
def State.judgeCommand (s : State) (origin : Byte) (b : CommandBody) : State :=
  match Command.ofCode b.code with
  | none => s.setResult origin b.code .badArgument
  | some .restart => s.takeRestart origin b.code
  | some k =>
    if k.badNumber b.number then s.setResult origin b.code .badArgument
    else if s.inConfigFault then s.setResult origin b.code .refusedState
    else
      match s.perform k b with
      | (s, result) => s.setResult origin b.code result

/-- The origin is one of the gateways of the image (R172). -/
def State.isGateway (s : State) (origin : Byte) : Bool :=
  origin == s.settings.gateway1 || (s.settings.gateway2 != 0 && origin == s.settings.gateway2)

/-- A COMMAND is handed to the Report Controller (R172). -/
def State.takeCommand (s : State) (h : Header) (b : CommandBody) : State :=
  if b.target = s.cl.station then
    if s.inConfigFault || s.isGateway h.origin then s.judgeCommand h.origin b
    else s.alarm .commandRejected (.peer h.origin) none b.code.toNat
  else s

end Sys2Proof.Machine
end

