-- ==== Sys2Proof/Machine/Reception.lean ====
section
/-! DEFINITION. The Pilot Port controller's receiving side (section 7.5) and the events of a port's medium access
(section 7.2). -/

namespace Sys2Proof.Machine

/-! ### Receptions (section 7.5) -/

/-- A transmission heard now is a reception of the port: it is in ACTIVE or QUIET, not in SEND, and not passing over the
rest of a collision (R135, R128). The port's state is looked at when the bytes are taken, not when the segment became
busy (DESIGN CHOICE, log 60). -/
def PortRec.receives (r : PortRec) : Bool := r.state != .off && r.tx != .send && !r.deaf

/-- A bad reception (R135). -/
def State.receiveBad (s : State) (p : Port) : State :=
  let now := s.time
  let r := s.port p
  let errors := countUpTo 32767 r.errors
  let window := r.errorWindow.filter (fun t => decide (elapsed t now ≤ 1000)) ++ [now]
  if 8 ≤ window.length then
    (s.modPort p fun r => { r with errors, errorWindow := [] }).alarm .portError (.port p) none errors
  else s.modPort p fun r => { r with errors, errorWindow := window }

/-- A good frame restarts the quiet timer and returns a QUIET port to ACTIVE (R125). -/
def State.portHears (s : State) (p : Port) : State :=
  s.modPort p fun r => { r with state := .active, quietTimer := s.after (2000 * msec) }

/-- The frame is handed to the block that owns its kind (R137); in CONFIG FAULT COMMAND frames alone are handed on
(R143). -/
def State.handOn (s : State) (p : Port) (f : Frame) : State :=
  match f.payload with
  | .command b => s.takeCommand f.header b
  | .report _ => s
  | .status b => if s.inConfigFault then s else s.takeStatus p f.header b
  | .intertrip b => if s.inConfigFault then s else s.receiveIntertrip f.header b
  | .testNotice b => if s.inConfigFault then s else s.takeNotice f.header.origin b
  | .locate b => if s.inConfigFault then s else s.takeLocate f.header b

/-- The copy of a forwarded frame (R138). -/
def State.forwardCopy (s : State) (f : Frame) : QFrame :=
  { frame :=
      { f with
        header :=
          { f.header with
            hops := f.header.hops - 1, loopMark := f.header.loopMark || s.settings.loopMark } },
    own := false, queuedAt := s.time, restart := false }

/-- The frame is forwarded onto the other port, or counted there as a loop discard (R138, R132). A station without an
image copy forwards nothing (R143). -/
def State.forward (s : State) (p : Port) (f : Frame) : State :=
  let q := other p
  if s.handedOver && s.settings.junction && f.header.scope == .network && f.header.hops != 0 &&
      f.header.origin != s.cl.station && (s.port q).state != .off then
    if f.header.loopMark && s.settings.loopMark then s.modPort q PortRec.countDrop
    else State.announce (s.enqueue q (s.forwardCopy f)).2 (s.enqueue q (s.forwardCopy f)).1
  else s

/-- A frame that is not a duplicate: local processing, then forwarding (R137, R138). -/
def State.processFrame (s : State) (p : Port) (f : Frame) : State :=
  if f.header.origin = s.cl.station then s else (s.handOn p f).forward p f

/-- A frame that has passed the frame check: the seen-list check, then the rest (R125, R136). -/
def State.receiveGood (s : State) (p : Port) (f : Frame) : State :=
  let s := s.portHears p
  let pair := (f.header.origin, f.header.seq)
  if f.header.scope = .network then
    if pair ∈ s.pp.seen then s
    else { s with pp := { s.pp with seen := addSeen pair s.pp.seen } }.processFrame p f
  else s.processFrame p f

/-- A frame is received on a port; one that could not pass the frame check is a bad reception (R135, log 8). -/
def State.receiveFrame (s : State) (p : Port) (f : Frame) : State :=
  if (s.port p).receives then
    if f.wellFormed then s.receiveGood p f else s.receiveBad p
  else s

/-- The bytes of a transmission are received on a port (R135, log 9). -/
def State.receiveBytes (s : State) (p : Port) (bytes : List Byte) : State :=
  if (s.port p).receives then
    match parseReception bytes with
    | .fragment => s
    | .bad => s.receiveBad p
    | .good f => s.receiveGood p f
  else s

/-- The COMMAND frame of a row's operands and code. -/
def commandFrame (c : CommandOperands) (code : Byte) : Frame :=
  { header := c.header,
    payload := .command { target := c.target, code, number := c.number, arg := c.arg, tag := c.tag } }

/-- A COMMAND frame with a code is received (R137). -/
def State.receiveCommand (s : State) (c : CommandOperands) (code : Byte) : State :=
  s.receiveFrame c.port (commandFrame c code)

/-! ### Medium access (section 7.2) -/

/-- The level of a segment. -/
def State.setBusy (s : State) (p : Port) (busy : Bool) : State :=
  { s with pins := { s.pins with busy := s.pins.busy.set p busy } }

/-- The segment becomes busy (R126). -/
def State.becomesBusy (s : State) (p : Port) : State :=
  (s.setBusy p true).modPort p fun r =>
    if r.tx = .gap then { r with tx := .defer, gapTimer := none } else r

/-- The segment falls idle (R126, R128). -/
def State.fallsIdle (s : State) (p : Port) : State :=
  let s := s.setBusy p false
  s.modPort p fun r =>
    match r.tx, r.hand with
    | .defer, some c => s.access p c { r with deaf := false }
    | _, _ => { r with deaf := false }

/-- A frame with the age that R134 gives it at an entry into SEND. -/
def QFrame.aged (q : QFrame) (now : Nat) : Frame :=
  match q.frame.payload with
  | .intertrip b =>
    { q.frame with
      payload :=
        .intertrip { b with age := BitVec.ofNat 16 (min 65535 (b.age.toNat + elapsed q.queuedAt now)) } }
  | _ => q.frame

/-- The gap timer expires in GAP: the frame in hand goes onto the line (R126, R127, R134). -/
def State.beginSend (s : State) (p : Port) : State :=
  match (s.port p).inHand with
  | some q =>
    let line := (q.aged s.time).bytes
    s.modPort p fun r => { r with tx := .send, gapTimer := none, line, sendEnd := s.after (4 * line.length) }
  | none => s.modPort p fun r => { r with tx := .idle, hand := none, gapTimer := none }

/-- The last byte has gone out without a difference (R127, log 19). -/
def State.sendEnds (s : State) (p : Port) : State :=
  let s := s.setBusy p false
  s.modPort p fun r => s.takeNext p r.removeInHand

/-- One advance of the backoff register (R128). -/
def advanceBackoff (w : Word16) : Word16 :=
  (w <<< 1) ||| BitVec.ofNat 16 (bit (w.getLsbD 15 ^^ w.getLsbD 13 ^^ w.getLsbD 12 ^^ w.getLsbD 10) 0)

/-- The backoff wait in us (R128). -/
def backoffWait (register : Word16) (attempts : Nat) : Nat := register.toNat % 2 ^ min attempts 5 * 20

/-- A port that has collided fewer than 16 times enters BACKOFF; a wait of 0 ends at once (R128). -/
def State.backOff (s : State) (p : Port) (r : PortRec) : PortRec :=
  let register := advanceBackoff r.backoffReg
  let wait := backoffWait register r.attempts
  let r := { r with backoffReg := register, line := [], sendEnd := none }
  if wait = 0 then s.access p (r.hand.getD .routine) r
  else { r with tx := .backoff, backoffTimer := s.after wait }

/-- An urgent frame waiting behind a routine frame that has collided takes the hand (R129, log 18). -/
def State.waitingUrgent (s : State) (p : Port) (r : PortRec) : PortRec :=
  if r.urgent.isEmpty then r else s.urgentTakesHand p r

/-- The read-back of a port in SEND differs from what it sends (R128, R129, R132). -/
def State.collide (s : State) (p : Port) : State :=
  let s := s.setBusy p true
  let s := s.modPort p fun r => { r with attempts := r.attempts + 1, deaf := true }
  if 16 ≤ (s.port p).attempts then
    let s := s.modPort p fun r => s.takeNext p r.removeInHand.countDrop
    s.raise (congestion p (s.port p).drops)
  else s.modPort p fun r => s.waitingUrgent p (s.backOff p r)

/-- The backoff timer expires in BACKOFF (R128). -/
def State.backoffEnds (s : State) (p : Port) : State :=
  s.modPort p fun r => s.access p (r.hand.getD .routine) r

/-- The quiet timer expires (R125). -/
def State.fallQuiet (s : State) (p : Port) : State :=
  (s.modPort p fun r => { r with state := .quiet, quietTimer := none }).alarm .portQuiet (.port p) none 0

/-- The STATUS timer expires (R139). -/
def State.periodicStatus (s : State) : State :=
  { s with pp := { s.pp with statusTimer := s.after (100 * msec) } }.status

/-- The timer of a listener expires (R140). -/
def State.dropListener (s : State) (station : Byte) : State :=
  { s with pp := { s.pp with listeners := dropFirst (fun l => l.station == station) s.pp.listeners } }

end Sys2Proof.Machine
end

