-- ==== Sys2Proof/Machine/StartUp.lean ====
section
/-! DEFINITION. The Configuration Loader (Chapter 11): reset, the start-up order, CONFIG FAULT and restart. -/

namespace Sys2Proof.Machine

/-! ### CONFIG FAULT (R186) -/

/-- The station enters CONFIG FAULT: every feeder is adopted, and tripped if it is found closed (R186, R82). -/
def State.enterConfigFault (s : State) : State :=
  let s := { s with cl := { s.cl with mode := .configFault, readTimer := none } }
  forFeeders State.tripFound (forFeeders State.adopt s)

/-- The seed of a port's backoff register (R124). -/
def State.backoffSeed (s : State) (p : Port) : Word16 :=
  BitVec.ofNat 16 (s.cl.station.toNat * 257 + 128 * p.val)

/-- A port enters ACTIVE (R124). On a segment that is busy then, it hears the transmission under way (DESIGN CHOICE,
log 60). -/
def State.enablePort (p : Port) (s : State) : State :=
  s.modPort p fun r =>
    { r with state := .active, quietTimer := s.after (2000 * msec), backoffReg := s.backoffSeed p }

/-- The STATUS timer is started (R124). -/
def State.startStatusTimer (s : State) : State :=
  { s with pp := { s.pp with statusTimer := s.after (100 * msec) } }

/-- A bad image (R183, R186): CONFIG FAULT with both ports ACTIVE (R143). -/
def State.badImage (s : State) : State := (forPorts State.enablePort s.enterConfigFault).startStatusTimer

/-! ### Reset (R182) -/

/-- A station number (R183). -/
def strapsValid (straps : Byte) : Bool := decide (1 ≤ straps.toNat) && decide (straps.toNat ≤ 250)

/-- The end of reset: every block's records in their reset state, the contact levels read from the raw contacts, station
time 0 (R182, R1, R16, R35, R61, R79, R103, R124, R144, R161, R175). The levels at the pins and the waiting commands are
not the part's own and stay (log 6). -/
def State.clearedBy (s : State) (straps : Byte) : State :=
  { clock := 0, pins := { s.pins with straps }, li := .reset, st := .reset, fc := .reset, fp := .reset,
    fs := { feeders := Vector.ofFn fun f => FeederRec.reset s.pins.contacts[f] },
    pp := .reset, sc := .reset, rc := .reset, im := .reset,
    cl :=
      { station := straps, mode := .starting, settings := none, clampCount := 0, restartTimer := none,
        readTimer := if strapsValid straps then some (500 * msec) else none },
    pending := s.pending }

/-- A reset with the straps read: the image read begins, or a strap fault leads to CONFIG FAULT (R182, R183, R186). -/
def State.resetBy (s : State) (straps : Byte) : State :=
  let s := s.clearedBy straps
  if strapsValid straps then s else s.enterConfigFault

/-- A RESTART takes effect: the reset of R182 with the straps as they stand (R187). -/
def State.restartNow (s : State) : State := s.resetBy s.pins.straps

/-- A port is done with the STATUS of a RESTART: it is OFF, or no queued frame carries the mark (R187, log 29). -/
def PortRec.drained (r : PortRec) : Bool := r.state == .off || !(r.routine.any fun q => q.restart)

/-- A RESTART waits no longer when every port is done with its STATUS (R187). -/
def State.judgeRestart (s : State) : State :=
  if s.cl.restartTimer.isSome && (s.port 0).drained && (s.port 1).drained then s.restartNow else s

/-! ### An accepted image (R184, R185, R182) -/

/-- CONFIG CLAMPED, raised before the hand-over (R184). -/
def State.countClamps (s : State) (n : Nat) : State :=
  let s := { s with cl := { s.cl with clampCount := n } }
  if n = 0 then s else s.alarm .configClamped .station none n

/-- The nominal period in 1/16 us (R16). -/
def TimebaseSettings.nominal (t : TimebaseSettings) : Int := if t.frequency = 60 then 266667 else 320000

/-- The Supply Timebase takes its settings (R16). -/
def State.timebaseTakes (s : State) (t : TimebaseSettings) : State :=
  let period := TimebaseSettings.nominal t
  { s with
    st :=
      { s.st with
        period, stepInUse := phaseStep period,
        sources :=
          s.st.sources.mapFinIdx fun n r h =>
            if t.prefs.contains ⟨n, h⟩ then { r with watch := s.after s.watchTime } else r } }

/-- The Firing Controller takes its settings: Vset, and the groups that are not enabled (R35). -/
def State.firingTakes (s : State) (r : RectifierSettings) : State :=
  { s with
    fc :=
      { s.fc with
        vset := some r.vset,
        groups :=
          s.fc.groups.mapFinIdx fun n g h =>
            if r.enabled[n] then g else { g with state := .off, causes := .empty } } }

/-- The hand-over of the image copy to the blocks (R185). -/
def State.handOver (s : State) (c : Settings) : State :=
  let s := { s with cl := { s.cl with settings := some c, readTimer := none } }
  let s := (s.timebaseTakes c.timebase).firingTakes c.rectifier
  let s := { s with sc := { s.sc with register := BitVec.ofNat 16 (s.cl.station.toNat * 257) } }
  s.inputLevels.roleEffects

/-- Step 6: the tracker goes to SEEK if a source is ranked (R24). The phase stood in OFF, so its reading goes on from now
(R21, R23, log 50). -/
def State.startSeek (s : State) : State :=
  if s.ranked.isEmpty then s else { s with st := { s.st with lastStep := s.clock } }.enterSeek

/-- Step 7: each enabled port enters ACTIVE (R124). -/
def State.enablePorts (s : State) : State :=
  forPorts (fun p s => if s.settings.portEnabled[p] then State.enablePort p s else s) s

/-- Step 9: station mode RUNNING, LANE STALE for the lanes not fresh, and the LANE decisions (R182, R9, R10, R61).
The lanes are taken in the order L0 to L13 (DESIGN CHOICE, log 73). -/
def State.startRunning (s : State) : State :=
  let s := { s with cl := { s.cl with mode := .running } }
  let s := (List.finRange 14).foldl (fun s l => if s.laneFresh l then s else s.raiseStale l 3) s
  forFeeders (fun f s => s.laneDecision f) s

/-- Steps 4 to 9 of start-up (R182). -/
def State.startUp (s : State) : State :=
  (((forFeeders State.adopt s).pinPeers.startSeek.enablePorts).startStatusTimer.status).startRunning

/-- An accepted image: clamping, hand-over, and the rest of start-up at the one event (R182, R184, R185). -/
def State.acceptImage (s : State) (image : List Byte) : State :=
  ((s.countClamps (clampCount image)).handOver (imageSettings image)).startUp

/-- The bytes of the image have been delivered (R183). -/
def State.takeImage (s : State) (image : List Byte) : State :=
  match checkImage image s.cl.station with
  | .unfinished => s
  | .bad => s.badImage
  | .accepted => s.acceptImage image

end Sys2Proof.Machine
end

