-- ==== Sys2Proof/Machine/GatewayCommands.lean ====
section
/-! DEFINITION. The meanings of the COMMAND rows (Chapter 9). -/

namespace Sys2Proof.Machine

/-- OPEN: the COMMAND frame of its code is received (R172, R173, R97). -/
def execOpenFeeder (c : CommandOperands) (s : State) : Host.Outcome State Fault Refusal :=
  .next (s.receiveCommand c (Command.code .openFeeder))

/-- CLOSE: the COMMAND frame of its code is received (R172, R173, R100, R113). -/
def execCloseFeeder (c : CommandOperands) (s : State) : Host.Outcome State Fault Refusal :=
  .next (s.receiveCommand c (Command.code .closeFeeder))

/-- BLOCK_RECLOSE: the COMMAND frame of its code is received (R172, R173, R99). -/
def execBlockReclose (c : CommandOperands) (s : State) : Host.Outcome State Fault Refusal :=
  .next (s.receiveCommand c (Command.code .blockReclose))

/-- UNBLOCK_RECLOSE: the COMMAND frame of its code is received (R172, R173, R99). -/
def execUnblockReclose (c : CommandOperands) (s : State) : Host.Outcome State Fault Refusal :=
  .next (s.receiveCommand c (Command.code .unblockReclose))

/-- RESET_FEEDER: the COMMAND frame of its code is received (R172, R173, R101). -/
def execResetFeeder (c : CommandOperands) (s : State) : Host.Outcome State Fault Refusal :=
  .next (s.receiveCommand c (Command.code .resetFeeder))

/-- RESET_GROUP: the COMMAND frame of its code is received (R172, R173, R42). -/
def execResetGroup (c : CommandOperands) (s : State) : Host.Outcome State Fault Refusal :=
  .next (s.receiveCommand c (Command.code .resetGroup))

/-- SET_VOLTAGE: the COMMAND frame of its code is received (R172, R173, R52). -/
def execSetVoltage (c : CommandOperands) (s : State) : Host.Outcome State Fault Refusal :=
  .next (s.receiveCommand c (Command.code .setVoltage))

/-- STANDBY: the COMMAND frame of its code is received (R172, R173, R54, R55). -/
def execStandby (c : CommandOperands) (s : State) : Host.Outcome State Fault Refusal :=
  .next (s.receiveCommand c (Command.code .standby))

/-- WAKE: the COMMAND frame of its code is received (R172, R173, R59). -/
def execWake (c : CommandOperands) (s : State) : Host.Outcome State Fault Refusal :=
  .next (s.receiveCommand c (Command.code .wake))

/-- SET_FLOOR: the COMMAND frame of its code is received (R172, R173, R170). -/
def execSetFloor (c : CommandOperands) (s : State) : Host.Outcome State Fault Refusal :=
  .next (s.receiveCommand c (Command.code .setFloor))

/-- ACCEPT: the COMMAND frame of its code is received (R172, R173, R167, R168). -/
def execAcceptAlarm (c : CommandOperands) (s : State) : Host.Outcome State Fault Refusal :=
  .next (s.receiveCommand c (Command.code .acceptAlarm))

/-- DONE: the COMMAND frame of its code is received (R172, R173, R169). -/
def execAlarmDone (c : CommandOperands) (s : State) : Host.Outcome State Fault Refusal :=
  .next (s.receiveCommand c (Command.code .alarmDone))

/-- CLEAR_INPUT_FLAGS: the COMMAND frame of its code is received (R172, R173, R178). -/
def execClearInputFlags (c : CommandOperands) (s : State) : Host.Outcome State Fault Refusal :=
  .next (s.receiveCommand c (Command.code .clearInputFlags))

/-- CLEAR_OVERFLOW: the COMMAND frame of its code is received (R172, R173, R171). -/
def execClearOverflow (c : CommandOperands) (s : State) : Host.Outcome State Fault Refusal :=
  .next (s.receiveCommand c (Command.code .clearOverflow))

/-- RESTART: the COMMAND frame of its code is received (R172 to R174, R187); the reset follows at once where no port
has a copy of its STATUS to send. -/
def execRestart (c : CommandOperands) (s : State) : Host.Outcome State Fault Refusal :=
  .next ((s.receiveCommand c (Command.code .restart)).judgeRestart)

/-- UNKNOWN_COMMAND: a COMMAND frame with the code it carries is received; a code outside 1 to 15 is
BAD ARGUMENT (R173). -/
def execUnknownCommand (c : CommandOperands) (code : Byte) (s : State) : Host.Outcome State Fault Refusal :=
  .next (s.receiveCommand c code)

end Sys2Proof.Machine
end

