-- ==== Sys2Proof/Machine/InputCommands.lean ====
section
/-! DEFINITION. The meanings of the status input rows (Chapter 10). -/

namespace Sys2Proof.Machine

/-- INPUT_RAW_CHANGE: the raw level of a status input changes; from the hand-over on it restarts the debounce (R175,
R176, log 37). -/
def execInputRawChange (i : Input) (closed : Bool) (s : State) : Host.Outcome State Fault Refusal :=
  .next
    (if s.pins.inputs[i] = closed then s
     else
      { s with pins := { s.pins with inputs := s.pins.inputs.set i closed } }.modInput i fun r =>
        { r with timer := if s.handedOver then s.after ((s.inputSet i).debounce * msec) else r.timer })

/-- INPUT_DEBOUNCE_EXPIRY (R176, R177). -/
def execInputDebounceExpiry (i : Input) (s : State) : Host.Outcome State Fault Refusal :=
  .next (if Timer.due (s.input i).timer s.clock then s.debounceInput i else s)

end Sys2Proof.Machine
end

