-- ==== Sys2Proof/Machine/LaneCommands.lean ====
section
/-! DEFINITION. The meanings of the lane rows (Chapter 1). -/

namespace Sys2Proof.Machine

/-- SAMPLE_ARRIVAL: a raw code on a lane (R1 to R4, R6 to R9). -/
def execSampleArrival (l : Lane) (raw : Word16) (s : State) : Host.Outcome State Fault Refusal :=
  .next (s.arrive l raw)

/-- SILENCE_TIMER_EXPIRY: 300 us without an arrival (R5). -/
def execSilenceTimerExpiry (l : Lane) (s : State) : Host.Outcome State Fault Refusal :=
  .next (if Timer.due (s.lane l).silence s.clock then s.fallSilent l else s)

end Sys2Proof.Machine
end

