-- ==== Sys2Proof/Machine/PortCommands.lean ====
section
/-! DEFINITION. The meanings of the port rows: medium access, the quiet timer, STATUS and the listeners (Chapter 7). -/

namespace Sys2Proof.Machine

/-- SEGMENT_BUSY (R126). -/
def execSegmentBusy (p : Port) (s : State) : Host.Outcome State Fault Refusal :=
  .next (s.becomesBusy p)

/-- SEGMENT_IDLE (R126, R128). -/
def execSegmentIdle (p : Port) (s : State) : Host.Outcome State Fault Refusal :=
  .next (s.fallsIdle p)

/-- GAP_TIMER_EXPIRY: the frame in hand goes onto the line (R126, R127, R134). -/
def execGapTimerExpiry (p : Port) (s : State) : Host.Outcome State Fault Refusal :=
  .next (if (s.port p).tx = .gap ∧ Timer.due (s.port p).gapTimer s.clock then s.beginSend p else s)

/-- FRAME_SENT: the last byte has gone out (R127); a RESTART may have waited for it (R187). -/
def execFrameSent (p : Port) (s : State) : Host.Outcome State Fault Refusal :=
  .next
    (if (s.port p).tx = .send ∧ Timer.due (s.port p).sendEnd s.clock then (s.sendEnds p).judgeRestart else s)

/-- COLLISION: the read-back of a port in SEND differs (R128, R129); a RESTART may have waited for a frame
dropped by it (R187). -/
def execCollision (p : Port) (s : State) : Host.Outcome State Fault Refusal :=
  .next (if (s.port p).tx = .send then (s.collide p).judgeRestart else s)

/-- BACKOFF_TIMER_EXPIRY (R128). -/
def execBackoffTimerExpiry (p : Port) (s : State) : Host.Outcome State Fault Refusal :=
  .next
    (if (s.port p).tx = .backoff ∧ Timer.due (s.port p).backoffTimer s.clock then s.backoffEnds p else s)

/-- QUIET_TIMER_EXPIRY (R125). -/
def execQuietTimerExpiry (p : Port) (s : State) : Host.Outcome State Fault Refusal :=
  .next (if Timer.due (s.port p).quietTimer s.clock then s.fallQuiet p else s)

/-- STATUS_TIMER_EXPIRY: the periodic STATUS (R139). -/
def execStatusTimerExpiry (s : State) : Host.Outcome State Fault Refusal :=
  .next (if Timer.due s.pp.statusTimer s.clock then s.periodicStatus else s)

/-- LISTENER_EXPIRY: a listener entry is removed (R140). -/
def execListenerExpiry (station : Byte) (s : State) : Host.Outcome State Fault Refusal :=
  .next
    (if s.pp.listeners.any fun l => l.station == station && decide (l.timer ≤ s.clock) then s.dropListener station
     else s)

end Sys2Proof.Machine
end

