-- ==== Sys2Proof/Machine/ReceptionCommands.lean ====
section
/-! DEFINITION. The meanings of the rows of section 7.5: receptions on a port. -/

namespace Sys2Proof.Machine

/-- FRAGMENT: a reception shorter than 7 bytes is passed over (R135, log 9). -/
def execFragment (p : Port) (bytes : List Byte) (s : State) : Host.Outcome State Fault Refusal :=
  .next (s.receiveBytes p bytes)

/-- BAD_RECEPTION: a reception that fails the frame check (R135, log 9). -/
def execBadReception (p : Port) (bytes : List Byte) (s : State) : Host.Outcome State Fault Refusal :=
  .next (State.receiveBytes s p bytes)

/-- STATUS_RECEIVED (R125, R136 to R138, R145). -/
def execStatusReceived (p : Port) (h : Header) (b : StatusBody) (s : State) : Host.Outcome State Fault Refusal :=
  .next (s.receiveFrame p { header := h, payload := .status b })

/-- INTERTRIP_RECEIVED (R125, R136 to R138, R155, R156, R95). -/
def execIntertripReceived (p : Port) (h : Header) (b : IntertripBody) (s : State) : Host.Outcome State Fault Refusal :=
  .next (s.receiveFrame p { header := h, payload := .intertrip b })

/-- TEST_NOTICE_RECEIVED (R125, R136 to R138, R120). -/
def execTestNoticeReceived (p : Port) (h : Header) (b : NoticeBody) (s : State) : Host.Outcome State Fault Refusal :=
  .next (s.receiveFrame p { header := h, payload := .testNotice b })

/-- LOCATE_RECEIVED (R125, R136 to R138, R150). -/
def execLocateReceived (p : Port) (h : Header) (b : LocateBody) (s : State) : Host.Outcome State Fault Refusal :=
  .next (s.receiveFrame p { header := h, payload := .locate b })

/-- REPORT_RECEIVED: forwarded alone (R125, R136 to R138). -/
def execReportReceived (p : Port) (h : Header) (b : ReportBody) (s : State) : Host.Outcome State Fault Refusal :=
  .next (s.receiveFrame p { header := h, payload := .report b })

end Sys2Proof.Machine
end

