-- ==== Sys2Proof/Machine/StartCommands.lean ====
section
/-! DEFINITION. The meanings of the start-up rows: RESET, the image read, the restart timer (Chapter 11). -/

namespace Sys2Proof.Machine

/-- RESET: the reset of the whole part, the straps as they are read (R182, R183, R186). -/
def execReset (straps : Byte) (s : State) : Host.Outcome State Fault Refusal :=
  .next (s.resetBy straps)

/-- IMAGE_READ_COMPLETE: the bytes of the image, while the read is under way (R183 to R186). -/
def execImageReadComplete (image : List Byte) (s : State) : Host.Outcome State Fault Refusal :=
  .next (if s.cl.readTimer.isSome then s.takeImage image else s)

/-- IMAGE_READ_TIMEOUT: the read has not delivered the image within 500 ms (R183). -/
def execImageReadTimeout (s : State) : Host.Outcome State Fault Refusal :=
  .next (if Timer.due s.cl.readTimer s.clock then s.badImage else s)

/-- RESTART_TIMER_EXPIRY: 20 ms after RESTART the reset is performed (R187). -/
def execRestartTimerExpiry (s : State) : Host.Outcome State Fault Refusal :=
  .next (if Timer.due s.cl.restartTimer s.clock then s.restartNow else s)

end Sys2Proof.Machine
end

