-- ==== Sys2Proof/Machine/TimebaseCommands.lean ====
section
/-! DEFINITION. The meanings of the timebase rows (Chapter 2). -/

namespace Sys2Proof.Machine

/-- STEP_TIMER_EXPIRY: a pacing step while no lane paces (R21). -/
def execStepTimerExpiry (s : State) : Host.Outcome State Fault Refusal :=
  .next (if Timer.due s.st.stepTimer s.clock then s.stepTick else s)

/-- CROSSING_WATCH_EXPIRY: 1.5 nominal periods without a crossing (R19). -/
def execCrossingWatchExpiry (src : Source) (s : State) : Host.Outcome State Fault Refusal :=
  .next (if Timer.due (s.source src).watch s.clock then s.watchEnds src else s)

/-- SEEK_TIMER_EXPIRY (R27). -/
def execSeekTimerExpiry (s : State) : Host.Outcome State Fault Refusal :=
  .next (if Timer.due s.st.seekTimer s.clock then s.seekEnds else s)

/-- HOLDOVER_TIMER_EXPIRY (R30). -/
def execHoldoverTimerExpiry (s : State) : Host.Outcome State Fault Refusal :=
  .next (if Timer.due s.st.holdoverTimer s.clock then s.enterSeek else s)

/-- RETRY_TIMER_EXPIRY (R31). -/
def execRetryTimerExpiry (s : State) : Host.Outcome State Fault Refusal :=
  .next (if Timer.due s.st.retryTimer s.clock then s.enterSeek else s)

end Sys2Proof.Machine
end

