-- ==== Sys2Proof/Machine/Dispatch.lean ====
section
/-! DEFINITION. One arm per command: its meaning. -/

namespace Sys2Proof.Machine

open Sys2Proof

def exec (i : Instr) (s : State) : Host.Outcome State Fault Refusal :=
  match i with
  | .reset straps => Sys2Proof.Machine.execReset straps s
  | .imageReadComplete image => Sys2Proof.Machine.execImageReadComplete image s
  | .imageReadTimeout => Sys2Proof.Machine.execImageReadTimeout s
  | .sampleArrival l raw => Sys2Proof.Machine.execSampleArrival l raw s
  | .silenceTimerExpiry l => Sys2Proof.Machine.execSilenceTimerExpiry l s
  | .stepTimerExpiry => Sys2Proof.Machine.execStepTimerExpiry s
  | .crossingWatchExpiry src => Sys2Proof.Machine.execCrossingWatchExpiry src s
  | .seekTimerExpiry => Sys2Proof.Machine.execSeekTimerExpiry s
  | .holdoverTimerExpiry => Sys2Proof.Machine.execHoldoverTimerExpiry s
  | .retryTimerExpiry => Sys2Proof.Machine.execRetryTimerExpiry s
  | .firing g => Sys2Proof.Machine.execFiring g s
  | .pulseEnd g => Sys2Proof.Machine.execPulseEnd g s
  | .wakeTimerExpiry => Sys2Proof.Machine.execWakeTimerExpiry s
  | .lowvTimerExpiry f => Sys2Proof.Machine.execLowvTimerExpiry f s
  | .contactRawChange f closed => Sys2Proof.Machine.execContactRawChange f closed s
  | .contactDebounceExpiry f => Sys2Proof.Machine.execContactDebounceExpiry f s
  | .topenExpiry f => Sys2Proof.Machine.execTopenExpiry f s
  | .tcloseExpiry f => Sys2Proof.Machine.execTcloseExpiry f s
  | .reclaimExpiry f => Sys2Proof.Machine.execReclaimExpiry f s
  | .deadTimeExpiry f => Sys2Proof.Machine.execDeadTimeExpiry f s
  | .noticeStageExpiry f => Sys2Proof.Machine.execNoticeStageExpiry f s
  | .contactorStageExpiry f => Sys2Proof.Machine.execContactorStageExpiry f s
  | .firstHalfExpiry f => Sys2Proof.Machine.execFirstHalfExpiry f s
  | .secondHalfExpiry f => Sys2Proof.Machine.execSecondHalfExpiry f s
  | .liveTimerExpiry f => Sys2Proof.Machine.execLiveTimerExpiry f s
  | .followTimerExpiry f => Sys2Proof.Machine.execFollowTimerExpiry f s
  | .peerNoticeExpiry f => Sys2Proof.Machine.execPeerNoticeExpiry f s
  | .segmentBusy p => Sys2Proof.Machine.execSegmentBusy p s
  | .segmentIdle p => Sys2Proof.Machine.execSegmentIdle p s
  | .gapTimerExpiry p => Sys2Proof.Machine.execGapTimerExpiry p s
  | .frameSent p => Sys2Proof.Machine.execFrameSent p s
  | .collision p => Sys2Proof.Machine.execCollision p s
  | .backoffTimerExpiry p => Sys2Proof.Machine.execBackoffTimerExpiry p s
  | .quietTimerExpiry p => Sys2Proof.Machine.execQuietTimerExpiry p s
  | .fragment p bytes => Sys2Proof.Machine.execFragment p bytes s
  | .badReception p bytes => Sys2Proof.Machine.execBadReception p bytes s
  | .statusReceived p h b => Sys2Proof.Machine.execStatusReceived p h b s
  | .intertripReceived p h b => Sys2Proof.Machine.execIntertripReceived p h b s
  | .testNoticeReceived p h b => Sys2Proof.Machine.execTestNoticeReceived p h b s
  | .locateReceived p h b => Sys2Proof.Machine.execLocateReceived p h b s
  | .reportReceived p h b => Sys2Proof.Machine.execReportReceived p h b s
  | .statusTimerExpiry => Sys2Proof.Machine.execStatusTimerExpiry s
  | .listenerExpiry station => Sys2Proof.Machine.execListenerExpiry station s
  | .staleTimerExpiry station => Sys2Proof.Machine.execStaleTimerExpiry station s
  | .removalTimerExpiry station => Sys2Proof.Machine.execRemovalTimerExpiry station s
  | .locateTimerExpiry station => Sys2Proof.Machine.execLocateTimerExpiry station s
  | .repeatTimerExpiry f => Sys2Proof.Machine.execRepeatTimerExpiry f s
  | .confirmTimerExpiry f => Sys2Proof.Machine.execConfirmTimerExpiry f s
  | .dwellTimerExpiry => Sys2Proof.Machine.execDwellTimerExpiry s
  | .decayTimerExpiry => Sys2Proof.Machine.execDecayTimerExpiry s
  | .openFeeder c => Sys2Proof.Machine.execOpenFeeder c s
  | .closeFeeder c => Sys2Proof.Machine.execCloseFeeder c s
  | .blockReclose c => Sys2Proof.Machine.execBlockReclose c s
  | .unblockReclose c => Sys2Proof.Machine.execUnblockReclose c s
  | .resetFeeder c => Sys2Proof.Machine.execResetFeeder c s
  | .resetGroup c => Sys2Proof.Machine.execResetGroup c s
  | .setVoltage c => Sys2Proof.Machine.execSetVoltage c s
  | .standby c => Sys2Proof.Machine.execStandby c s
  | .wake c => Sys2Proof.Machine.execWake c s
  | .setFloor c => Sys2Proof.Machine.execSetFloor c s
  | .acceptAlarm c => Sys2Proof.Machine.execAcceptAlarm c s
  | .alarmDone c => Sys2Proof.Machine.execAlarmDone c s
  | .clearInputFlags c => Sys2Proof.Machine.execClearInputFlags c s
  | .clearOverflow c => Sys2Proof.Machine.execClearOverflow c s
  | .restart c => Sys2Proof.Machine.execRestart c s
  | .unknownCommand c code => Sys2Proof.Machine.execUnknownCommand c code s
  | .restartTimerExpiry => Sys2Proof.Machine.execRestartTimerExpiry s
  | .inputRawChange n closed => Sys2Proof.Machine.execInputRawChange n closed s
  | .inputDebounceExpiry n => Sys2Proof.Machine.execInputDebounceExpiry n s

end Sys2Proof.Machine
end

