-- ==== Sys2Proof/Machine/Ticks.lean ====
section
/-! DEFINITION. What comes due by itself: the expiries of the running timers, the firings and pulse ends that the tracked
phase has reached, and the frames that have gone out, as the rows that they are. With no command waiting, a step queues
all of them, or lets one microsecond pass (log 1). -/

namespace Sys2Proof.Machine

/-- The members of a list at which something is due. -/
def dueAt {α : Type} (xs : List α) (due : α → Bool) (row : α → Instr) : List Instr := (xs.filter due).map row

/-- One row, if it is due. -/
def dueOne (due : Bool) (row : Instr) : List Instr := if due then [row] else []

/-- A stage timer of a line test has run out in a stage. -/
def State.stageDue (s : State) (stage : Stage) (f : Feeder) : Bool :=
  match (s.feeder f).test with
  | some t => t.stage == stage && decide (t.timer ≤ s.clock)
  | none => false

/-- The live timer of a follower has run out. -/
def State.liveDue (s : State) (f : Feeder) : Bool :=
  match (s.feeder f).live with
  | .running t => decide (t ≤ s.clock)
  | _ => false

/-- A peer-notice record has run out. -/
def State.noticeDue (s : State) (f : Feeder) : Bool :=
  match (s.feeder f).notice with
  | some n => decide (n.timer ≤ s.clock)
  | none => false

/-- The tracked phase has reached the armed angle of a group that fires (R43). -/
def State.firingDue (s : State) (g : Group) : Bool :=
  match (s.group g).armed with
  | some a => (s.group g).state.fires && reached a.theta s.phi
  | none => false

/-- The tracked phase has reached the end of a group's pulse (R36). -/
def State.pulseDue (s : State) (g : Group) : Bool :=
  match (s.group g).pulse with
  | some p => reached p.endPhase s.phi
  | none => false

/-- The rows due from the image read, the lanes, the tracker and the groups, in the table's order. -/
def State.dueSupply (s : State) : List Instr :=
  dueOne (Timer.due s.cl.readTimer s.clock) .imageReadTimeout ++
    dueAt (List.finRange 14) (fun l => Timer.due (s.lane l).silence s.clock) .silenceTimerExpiry ++
    dueOne (Timer.due s.st.stepTimer s.clock) .stepTimerExpiry ++
    dueAt (List.finRange 3) (fun src => Timer.due (s.source src).watch s.clock) .crossingWatchExpiry ++
    dueOne (Timer.due s.st.seekTimer s.clock) .seekTimerExpiry ++
    dueOne (Timer.due s.st.holdoverTimer s.clock) .holdoverTimerExpiry ++
    dueOne (Timer.due s.st.retryTimer s.clock) .retryTimerExpiry ++
    dueAt (List.finRange 2) s.firingDue .firing ++ dueAt (List.finRange 2) s.pulseDue .pulseEnd ++
    dueOne (Timer.due s.fc.wakeTimer s.clock) .wakeTimerExpiry

/-- The rows due from the feeders, in the table's order. -/
def State.dueFeeders (s : State) : List Instr :=
  let all := List.finRange 4
  dueAt all (fun f => Timer.due (s.prot f).lowvTimer s.clock) .lowvTimerExpiry ++
    dueAt all (fun f => Timer.due (s.feeder f).contactTimer s.clock) .contactDebounceExpiry ++
    dueAt all (fun f => Timer.due (s.feeder f).topen s.clock) .topenExpiry ++
    dueAt all (fun f => Timer.due (s.feeder f).tclose s.clock) .tcloseExpiry ++
    dueAt all (fun f => Timer.due (s.feeder f).reclaim s.clock) .reclaimExpiry ++
    dueAt all (fun f => Timer.due (s.feeder f).dead s.clock) .deadTimeExpiry ++
    dueAt all (s.stageDue .notice) .noticeStageExpiry ++
    dueAt all (s.stageDue .contactor) .contactorStageExpiry ++
    dueAt all (s.stageDue .firstHalf) .firstHalfExpiry ++
    dueAt all (s.stageDue .secondHalf) .secondHalfExpiry ++
    dueAt all s.liveDue .liveTimerExpiry ++
    dueAt all (fun f => Timer.due (s.feeder f).follow s.clock) .followTimerExpiry ++
    dueAt all s.noticeDue .peerNoticeExpiry

/-- The rows due from the ports and the Coordinator, in the table's order. -/
def State.duePilot (s : State) : List Instr :=
  let ports := List.finRange 2
  let stations := s.sc.peers.map (·.station)
  let peer (timer : PeerEntry → Timer) (n : Byte) : Bool :=
    match s.peer n with
    | some e => Timer.due (timer e) s.clock
    | none => false
  dueAt ports (fun p => Timer.due (s.port p).gapTimer s.clock) .gapTimerExpiry ++
    dueAt ports (fun p => Timer.due (s.port p).sendEnd s.clock) .frameSent ++
    dueAt ports (fun p => Timer.due (s.port p).backoffTimer s.clock) .backoffTimerExpiry ++
    dueAt ports (fun p => Timer.due (s.port p).quietTimer s.clock) .quietTimerExpiry ++
    dueOne (Timer.due s.pp.statusTimer s.clock) .statusTimerExpiry ++
    dueAt (s.pp.listeners.filter fun l => decide (l.timer ≤ s.clock)) (fun _ => true)
      (fun l => .listenerExpiry l.station) ++
    dueAt stations (peer (·.staleTimer)) .staleTimerExpiry ++
    dueAt stations (peer (·.removalTimer)) .removalTimerExpiry ++
    dueAt stations (peer (·.locateTimer)) .locateTimerExpiry ++
    dueAt (List.finRange 4) (fun f => Timer.due (s.sender f).repeatTimer s.clock) .repeatTimerExpiry ++
    dueAt (List.finRange 4) (fun f => Timer.due (s.sender f).confirmTimer s.clock) .confirmTimerExpiry ++
    dueOne (Timer.due s.sc.dwellTimer s.clock) .dwellTimerExpiry ++
    dueOne (Timer.due s.sc.decayTimer s.clock) .decayTimerExpiry ++
    dueOne (Timer.due s.cl.restartTimer s.clock) .restartTimerExpiry ++
    dueAt (List.finRange 12) (fun i => Timer.due (s.input i).timer s.clock) .inputDebounceExpiry

/-- All rows due now. -/
def State.dueRows (s : State) : List Instr := s.dueSupply ++ s.dueFeeders ++ s.duePilot

/-- The step of an empty queue: what has come due is queued, or a microsecond passes (log 1). -/
def State.idle (s : State) : State :=
  match s.dueRows with
  | [] => { s with clock := s.clock + 1 }
  | row :: rows => { s with pending := row :: rows }

end Sys2Proof.Machine
end

