-- ==== Sys2Proof/Safety.lean ====
section
/-! DEFINITION. What claims about the part are stated with: which blocks an operation may change, when a frame is taken,
and the conditions that every state of a station that started from reset meets. -/

namespace Sys2Proof.Machine

/-! ### What an operation leaves

Each name lists the blocks that the second state may differ in. -/

abbrev State.onlyPpRc (s t : State) : Prop :=
  t.clock = s.clock ∧ t.pins = s.pins ∧ t.li = s.li ∧ t.st = s.st ∧ t.fc = s.fc ∧ t.fp = s.fp ∧ t.fs = s.fs ∧
    t.sc = s.sc ∧ t.im = s.im ∧ t.cl = s.cl ∧ t.pending = s.pending

abbrev State.onlySc (s t : State) : Prop :=
  t.clock = s.clock ∧ t.pins = s.pins ∧ t.li = s.li ∧ t.st = s.st ∧ t.fc = s.fc ∧ t.fp = s.fp ∧ t.fs = s.fs ∧
    t.pp = s.pp ∧ t.rc = s.rc ∧ t.im = s.im ∧ t.cl = s.cl ∧ t.pending = s.pending

abbrev State.onlyFcPpRc (s t : State) : Prop :=
  t.clock = s.clock ∧ t.pins = s.pins ∧ t.li = s.li ∧ t.st = s.st ∧ t.fp = s.fp ∧ t.fs = s.fs ∧ t.sc = s.sc ∧
    t.im = s.im ∧ t.cl = s.cl ∧ t.pending = s.pending

abbrev State.onlyFc (s t : State) : Prop :=
  t.clock = s.clock ∧ t.pins = s.pins ∧ t.li = s.li ∧ t.st = s.st ∧ t.fp = s.fp ∧ t.fs = s.fs ∧ t.pp = s.pp ∧
    t.sc = s.sc ∧ t.rc = s.rc ∧ t.im = s.im ∧ t.cl = s.cl ∧ t.pending = s.pending

abbrev State.onlyFcPpScRc (s t : State) : Prop :=
  t.clock = s.clock ∧ t.pins = s.pins ∧ t.li = s.li ∧ t.st = s.st ∧ t.fp = s.fp ∧ t.fs = s.fs ∧ t.im = s.im ∧
    t.cl = s.cl ∧ t.pending = s.pending

abbrev State.onlyPpScRc (s t : State) : Prop :=
  t.clock = s.clock ∧ t.pins = s.pins ∧ t.li = s.li ∧ t.st = s.st ∧ t.fc = s.fc ∧ t.fp = s.fp ∧ t.fs = s.fs ∧
    t.im = s.im ∧ t.cl = s.cl ∧ t.pending = s.pending

abbrev State.onlyFp (s t : State) : Prop :=
  t.clock = s.clock ∧ t.pins = s.pins ∧ t.li = s.li ∧ t.st = s.st ∧ t.fc = s.fc ∧ t.fs = s.fs ∧ t.pp = s.pp ∧
    t.sc = s.sc ∧ t.rc = s.rc ∧ t.im = s.im ∧ t.cl = s.cl ∧ t.pending = s.pending

abbrev State.onlyFpFs (s t : State) : Prop :=
  t.clock = s.clock ∧ t.pins = s.pins ∧ t.li = s.li ∧ t.st = s.st ∧ t.fc = s.fc ∧ t.pp = s.pp ∧ t.sc = s.sc ∧
    t.rc = s.rc ∧ t.im = s.im ∧ t.cl = s.cl ∧ t.pending = s.pending

abbrev State.onlyFs (s t : State) : Prop :=
  t.clock = s.clock ∧ t.pins = s.pins ∧ t.li = s.li ∧ t.st = s.st ∧ t.fc = s.fc ∧ t.fp = s.fp ∧ t.pp = s.pp ∧
    t.sc = s.sc ∧ t.rc = s.rc ∧ t.im = s.im ∧ t.cl = s.cl ∧ t.pending = s.pending

abbrev State.onlyFpFsPpRc (s t : State) : Prop :=
  t.clock = s.clock ∧ t.pins = s.pins ∧ t.li = s.li ∧ t.st = s.st ∧ t.fc = s.fc ∧ t.sc = s.sc ∧ t.im = s.im ∧
    t.cl = s.cl ∧ t.pending = s.pending

abbrev State.onlyFcFpFsPpScRc (s t : State) : Prop :=
  t.clock = s.clock ∧ t.pins = s.pins ∧ t.li = s.li ∧ t.st = s.st ∧ t.im = s.im ∧ t.cl = s.cl ∧ t.pending =
    s.pending

abbrev State.onlyFsPpRc (s t : State) : Prop :=
  t.clock = s.clock ∧ t.pins = s.pins ∧ t.li = s.li ∧ t.st = s.st ∧ t.fc = s.fc ∧ t.fp = s.fp ∧ t.sc = s.sc ∧
    t.im = s.im ∧ t.cl = s.cl ∧ t.pending = s.pending

abbrev State.onlyFcFpFsPpRc (s t : State) : Prop :=
  t.clock = s.clock ∧ t.pins = s.pins ∧ t.li = s.li ∧ t.st = s.st ∧ t.sc = s.sc ∧ t.im = s.im ∧ t.cl = s.cl ∧
    t.pending = s.pending

abbrev State.onlySt (s t : State) : Prop :=
  t.clock = s.clock ∧ t.pins = s.pins ∧ t.li = s.li ∧ t.fc = s.fc ∧ t.fp = s.fp ∧ t.fs = s.fs ∧ t.pp = s.pp ∧
    t.sc = s.sc ∧ t.rc = s.rc ∧ t.im = s.im ∧ t.cl = s.cl ∧ t.pending = s.pending

abbrev State.onlyStFcPpRc (s t : State) : Prop :=
  t.clock = s.clock ∧ t.pins = s.pins ∧ t.li = s.li ∧ t.fp = s.fp ∧ t.fs = s.fs ∧ t.sc = s.sc ∧ t.im = s.im ∧
    t.cl = s.cl ∧ t.pending = s.pending

abbrev State.onlyLi (s t : State) : Prop :=
  t.clock = s.clock ∧ t.pins = s.pins ∧ t.st = s.st ∧ t.fc = s.fc ∧ t.fp = s.fp ∧ t.fs = s.fs ∧ t.pp = s.pp ∧
    t.sc = s.sc ∧ t.rc = s.rc ∧ t.im = s.im ∧ t.cl = s.cl ∧ t.pending = s.pending

abbrev State.onlyLiSc (s t : State) : Prop :=
  t.clock = s.clock ∧ t.pins = s.pins ∧ t.st = s.st ∧ t.fc = s.fc ∧ t.fp = s.fp ∧ t.fs = s.fs ∧ t.pp = s.pp ∧
    t.rc = s.rc ∧ t.im = s.im ∧ t.cl = s.cl ∧ t.pending = s.pending

abbrev State.onlyStFcFpFsPpScRc (s t : State) : Prop :=
  t.clock = s.clock ∧ t.pins = s.pins ∧ t.li = s.li ∧ t.im = s.im ∧ t.cl = s.cl ∧ t.pending = s.pending

abbrev State.onlyLiStFcFpFsPpScRc (s t : State) : Prop :=
  t.clock = s.clock ∧ t.pins = s.pins ∧ t.im = s.im ∧ t.cl = s.cl ∧ t.pending = s.pending

abbrev State.onlyLiStFcPpScRc (s t : State) : Prop :=
  t.clock = s.clock ∧ t.pins = s.pins ∧ t.fp = s.fp ∧ t.fs = s.fs ∧ t.im = s.im ∧ t.cl = s.cl ∧ t.pending =
    s.pending

abbrev State.onlyFcFpFsPpScRcIm (s t : State) : Prop :=
  t.clock = s.clock ∧ t.pins = s.pins ∧ t.li = s.li ∧ t.st = s.st ∧ t.cl = s.cl ∧ t.pending = s.pending

abbrev State.onlyIm (s t : State) : Prop :=
  t.clock = s.clock ∧ t.pins = s.pins ∧ t.li = s.li ∧ t.st = s.st ∧ t.fc = s.fc ∧ t.fp = s.fp ∧ t.fs = s.fs ∧
    t.pp = s.pp ∧ t.sc = s.sc ∧ t.rc = s.rc ∧ t.cl = s.cl ∧ t.pending = s.pending

abbrev State.onlyRc (s t : State) : Prop :=
  t.clock = s.clock ∧ t.pins = s.pins ∧ t.li = s.li ∧ t.st = s.st ∧ t.fc = s.fc ∧ t.fp = s.fp ∧ t.fs = s.fs ∧
    t.pp = s.pp ∧ t.sc = s.sc ∧ t.im = s.im ∧ t.cl = s.cl ∧ t.pending = s.pending

abbrev State.onlyPpRcCl (s t : State) : Prop :=
  t.clock = s.clock ∧ t.pins = s.pins ∧ t.li = s.li ∧ t.st = s.st ∧ t.fc = s.fc ∧ t.fp = s.fp ∧ t.fs = s.fs ∧
    t.sc = s.sc ∧ t.im = s.im ∧ t.pending = s.pending

abbrev State.onlyFcFpFsPpScRcImCl (s t : State) : Prop :=
  t.clock = s.clock ∧ t.pins = s.pins ∧ t.li = s.li ∧ t.st = s.st ∧ t.pending = s.pending

abbrev State.onlyPp (s t : State) : Prop :=
  t.clock = s.clock ∧ t.pins = s.pins ∧ t.li = s.li ∧ t.st = s.st ∧ t.fc = s.fc ∧ t.fp = s.fp ∧ t.fs = s.fs ∧
    t.sc = s.sc ∧ t.rc = s.rc ∧ t.im = s.im ∧ t.cl = s.cl ∧ t.pending = s.pending

abbrev State.onlyPins (s t : State) : Prop :=
  t.clock = s.clock ∧ t.li = s.li ∧ t.st = s.st ∧ t.fc = s.fc ∧ t.fp = s.fp ∧ t.fs = s.fs ∧ t.pp = s.pp ∧ t.sc
    = s.sc ∧ t.rc = s.rc ∧ t.im = s.im ∧ t.cl = s.cl ∧ t.pending = s.pending

abbrev State.onlyPinsPp (s t : State) : Prop :=
  t.clock = s.clock ∧ t.li = s.li ∧ t.st = s.st ∧ t.fc = s.fc ∧ t.fp = s.fp ∧ t.fs = s.fs ∧ t.sc = s.sc ∧ t.rc
    = s.rc ∧ t.im = s.im ∧ t.cl = s.cl ∧ t.pending = s.pending

abbrev State.onlyPinsPpRc (s t : State) : Prop :=
  t.clock = s.clock ∧ t.li = s.li ∧ t.st = s.st ∧ t.fc = s.fc ∧ t.fp = s.fp ∧ t.fs = s.fs ∧ t.sc = s.sc ∧ t.im
    = s.im ∧ t.cl = s.cl ∧ t.pending = s.pending

/-! ### What is sent and alarmed

Most events send STATUS frames and raise alarms, which may be dropped, merged or preempted. Two states are the same but
for reports when they differ at most in the transmit side of the ports, the sequence number, the seen list, and the
alarm table with its tag and its overflow flag. -/

/-- What a port keeps through every origination: everything but its transmit side and its drop count. -/
def PortRec.sameReception (r q : PortRec) : Prop :=
  q.state = r.state ∧ q.quietTimer = r.quietTimer ∧ q.backoffReg = r.backoffReg ∧ q.deaf = r.deaf ∧
    q.errorWindow = r.errorWindow ∧ q.errors = r.errors

/-- What originations and raises keep of the Pilot Port controller and the Report Controller. -/
structure State.ReportsKept (s t : State) : Prop where
  listeners : t.pp.listeners = s.pp.listeners
  statusTimer : t.pp.statusTimer = s.pp.statusTimer
  reception : ∀ p, (s.port p).sameReception (t.port p)
  floor : t.rc.floor = s.rc.floor
  lastResult : t.rc.lastResult = s.rc.lastResult

/-- The same state but for reports. -/
structure State.SameButReports (s t : State) : Prop where
  blocks : s.onlyPpRc t
  kept : s.ReportsKept t

/-- An alarm stands in the table with the time and the detail of its last raise, if the table was not near its limit of
32 entries. -/
def State.alarmed (s t : State) (k : AlarmKind) (o : AlarmObject) (detail : Int) : Prop :=
  s.rc.table.length ≤ 24 →
    ∃ e ∈ t.rc.table, e.kind = k ∧ e.object = o ∧ e.state ≠ .accepted ∧ e.last = s.time ∧ e.detail = some detail

/-- An alarm entry but for where it stands with the gateway. -/
def Alarm.unjudged (e : Alarm) : Alarm := { e with state := .pending, tag := none }

/-- The records of the other feeders are as they were. -/
def State.otherFeedersKept (s t : State) (f : Feeder) : Prop :=
  ∀ f', f' ≠ f → t.feeder f' = s.feeder f' ∧ t.prot f' = s.prot f'

/-- The IMAX and DDL records of a feeder are as they were (R63 to R67). -/
def ProtRec.sameElements (r q : ProtRec) : Prop :=
  q.imaxRun = r.imaxRun ∧ q.imaxPicked = r.imaxPicked ∧ q.ddlRising = r.ddlRising ∧ q.ddlBase = r.ddlBase ∧
    q.ddlT = r.ddlT ∧ q.ddlLowRun = r.ddlLowRun ∧ q.ddlPeak = r.ddlPeak ∧ q.ddlPicked = r.ddlPicked

/-- The IMAX and DDL records of a feeder are at rest, with their pick-ups, the base and the peak kept (R10, log 42). -/
def ProtRec.restedElements (r q : ProtRec) : Prop :=
  q.imaxRun = 0 ∧ q.imaxPicked = r.imaxPicked ∧ q.ddlRising = false ∧ q.ddlBase = r.ddlBase ∧ q.ddlT = 0 ∧
    q.ddlLowRun = 0 ∧ q.ddlPeak = r.ddlPeak ∧ q.ddlPicked = r.ddlPicked

/-- A lane that is FRESH, or that the next valid sample makes FRESH (R4). -/
def LaneRec.provesFresh (r : LaneRec) : Prop := r.health = .fresh ∨ 7 ≤ r.goodRun

/-- A FRESH lane that the next invalid sample makes STALE (R3). -/
def LaneRec.nearStale (r : LaneRec) : Prop := r.health = .fresh ∧ 2 ≤ r.invalidRun

/-- The routine frames of a port that wait: all of its queue but one that is being sent (R131). -/
def PortRec.waitingRoutine (r : PortRec) : List QFrame :=
  if r.tx = .send ∧ r.hand = some .routine then r.routine.drop 1 else r.routine

/-- The rest of the intertrip senders are as they were, and so are the peers and load sharing. -/
def State.otherSendersKept (s t : State) (f : Feeder) : Prop :=
  (∀ f', f' ≠ f → t.sender f' = s.sender f') ∧ t.sc = { s.sc with senders := t.sc.senders }

/-- The rows after which the part may have been reset: RESET, and those at which a RESTART takes effect (R182, R187). -/
def mayReset : Instr → Bool
  | .reset _ => true
  | .restart _ => true
  | .restartTimerExpiry => true
  | .frameSent _ => true
  | .collision _ => true
  | _ => false

/-! ### Receptions

A frame is taken when the port hears it, it passes the frame check, it is no duplicate and it is not this station's own
(R135, R136, R137). -/

def State.takesFrame (s : State) (p : Port) (f : Frame) : Prop :=
  (s.port p).receives ∧ f.wellFormed ∧ (f.header.scope = .network → (f.header.origin, f.header.seq) ∉ s.pp.seen) ∧
    f.header.origin ≠ s.cl.station

/-- A COMMAND row's frame is taken in a running station, and it is for this station and from one of its gateways
(R172). -/
def State.takesCommand (s : State) (c : CommandOperands) (code : Byte) : Prop :=
  s.takesFrame c.port (commandFrame c code) ∧ c.target = s.cl.station ∧ s.isGateway c.header.origin ∧
    s.cl.mode = .running

/-- The state after a good frame that is no duplicate has been heard, before it is handed on: the port is ACTIVE with its
quiet timer restarted, and the pair of a NETWORK frame is in the seen list (R125, R136). -/
def State.heard (s : State) (p : Port) (h : Header) : State :=
  let t := s.portHears p
  if h.scope = .network then { t with pp := { t.pp with seen := addSeen (h.origin, h.seq) t.pp.seen } } else t

/-- The row of a command (section 9.6). -/
def Command.row (k : Command) (c : CommandOperands) : Instr :=
  match k with
  | .openFeeder => .openFeeder c
  | .closeFeeder => .closeFeeder c
  | .blockReclose => .blockReclose c
  | .unblockReclose => .unblockReclose c
  | .resetFeeder => .resetFeeder c
  | .resetGroup => .resetGroup c
  | .setVoltage => .setVoltage c
  | .standby => .standby c
  | .wake => .wake c
  | .setFloor => .setFloor c
  | .acceptAlarm => .acceptAlarm c
  | .alarmDone => .alarmDone c
  | .clearInputFlags => .clearInputFlags c
  | .clearOverflow => .clearOverflow c
  | .restart => .restart c

/-- The row of a frame received on a port (section 7.5). -/
def Frame.row (p : Port) (f : Frame) : Instr :=
  match f.payload with
  | .status b => .statusReceived p f.header b
  | .intertrip b => .intertripReceived p f.header b
  | .testNotice b => .testNoticeReceived p f.header b
  | .locate b => .locateReceived p f.header b
  | .report b => .reportReceived p f.header b
  | .command b =>
    let c : CommandOperands :=
      { port := p, header := f.header, target := b.target, number := b.number, arg := b.arg, tag := b.tag }
    match Command.ofCode b.code with
    | some k => k.row c
    | none => .unknownCommand c b.code

/-- The last command result after a command (R173). -/
def State.answered (t : State) (c : CommandOperands) (k : Command) (r : CommandResult) : Prop :=
  t.rc.lastResult = some { gateway := c.header.origin, code := k.code, result := r }

/-- A frame heard on a port is not put onto the other one (R138). -/
def State.notForwarded (s : State) (p : Port) (h : Header) : Prop :=
  s.settings.junction = false ∨ h.scope = .segment ∨ h.hops = 0 ∨ (s.port (other p)).state = .off

/-! ### Conditions that every step keeps -/

/-- The Configuration Loader: the image is read in STARTING alone, and a station runs exactly when it holds an image copy
(R182, R183, R186). -/
structure State.LoaderOk (s : State) : Prop where
  reading : s.cl.readTimer.isSome → s.cl.mode = .starting
  copy : s.cl.settings.isSome ↔ s.cl.mode = .running

/-- A lane record (R1 to R5): its value and its runs keep their ranges, a FRESH lane is not silent, and eight good samples
in a row have made it FRESH. -/
structure LaneRec.Ok (r : LaneRec) : Prop where
  value : -32767 ≤ r.value ∧ r.value ≤ 32767
  invalidRun : r.invalidRun ≤ 3
  goodRun : r.goodRun ≤ 8
  heard : r.health = .fresh → r.silence.isSome ∧ r.invalidRun < 3
  proved : r.goodRun = 8 → r.health = .fresh

/-- Lane Intake: every lane record, and Ibus as R6 forms it. -/
structure State.LanesOk (s : State) : Prop where
  lanes : ∀ l, (s.lane l).Ok
  ibus : s.li.ibus = saturate (s.busPart 9 + s.busPart 10)
  di : ∀ f : Feeder, -32767 ≤ s.li.di[f] ∧ s.li.di[f] ≤ 32767

/-- The Supply Timebase: P and the tracked phase keep their ranges (R21), the period window holds valid periods (R25),
each timer runs in its own tracker state, and the tracker is OFF unless the station runs (R16, R24). -/
structure State.TimebaseOk (s : State) : Prop where
  period : 246154 ≤ s.st.period ∧ s.st.period ≤ 355556
  phase : 0 ≤ s.st.phase ∧ s.st.phase < cycle
  window : ∀ p ∈ s.st.window, validPeriod p
  seeking : s.st.tracker = .seek → s.st.window.length ≤ 2
  windowLength : s.st.window.length ≤ 3
  seekTimer : s.st.seekTimer.isSome ↔ s.st.tracker = .seek
  holdoverTimer : s.st.holdoverTimer.isSome ↔ s.st.tracker = .holdover
  retryTimer : s.st.retryTimer.isSome ↔ s.st.tracker = .fault
  off : s.cl.mode ≠ .running → s.st.tracker = .off
  counts : ∀ src, (s.source src).lowCount ≤ 2 ∧ (s.source src).goodCount ≤ 4

/-- A group (Chapter 3): it fires exactly while it is not OFF and no cause is present (section 3.2), it has a pulse or an
armed firing only while it fires (R36, R38), and each cause follows what it stands for (R14, R32, R33, R40, R55, R181). -/
structure State.GroupOk (s : State) (g : Group) : Prop where
  fires : (s.group g).state.fires ↔ (s.group g).state ≠ .off ∧ (s.group g).causes.isEmpty
  quiet : (s.group g).state.fires = false →
    (s.group g).pulse = none ∧ (s.group g).armed = none ∧ (s.group g).limited = false
  off : (s.group g).state = .off → (s.group g).causes = .empty
  overRun : (s.group g).overRun ≤ 1
  timebase : (s.group g).state ≠ .off → (s.group g).causes.timebase = s.st.tracker.holdsTimebase
  supplyLow : (s.group g).state ≠ .off → vd0Of s.st.vamp < 1000 → (s.group g).causes.supply
  supplyHigh : (s.group g).state ≠ .off → 1500 ≤ vd0Of s.st.vamp → (s.group g).causes.supply = false
  measure : (s.group g).state ≠ .off →
    (s.group g).causes.measure = !(s.laneFresh 0 && s.laneFresh (groupLane g))
  standby : (s.group g).state ≠ .off → (s.group g).causes.standby = s.fc.standby
  input : (s.group g).state ≠ .off → (s.group g).causes.input = s.inputBlocked g
  breakerFailure : (s.group g).state ≠ .off → (s.group g).causes.breakerFailure = s.anyFailed

/-- The Firing Controller: both groups, Iacc 0 whenever neither group is RUNNING (R38) and in its range (R47), and the
wake timer only in standby with L0 FRESH (R56). -/
structure State.FiringOk (s : State) : Prop where
  groups : ∀ g, s.GroupOk g
  iacc : -256000 ≤ s.fc.iacc ∧ s.fc.iacc ≤ 256000
  iaccZero : (s.group 0).state ≠ .running → (s.group 1).state ≠ .running → s.fc.iacc = 0
  entryTime : s.fc.entryTime.isSome ↔ s.fc.standby
  wakeTimer : s.fc.wakeTimer.isSome → s.fc.standby ∧ s.laneFresh 0

/-- The outputs of a feeder (R78): which states drive them, and what keeps the close coil released. -/
structure State.OutputsOk (s : State) (f : Feeder) : Prop where
  closeCoil : (s.feeder f).closeCoil →
    (s.feeder f).state = .closing ∧ (s.feeder f).holds.interlock = false ∧ (s.prot f).pickedUp = false
  tripCoil : (s.feeder f).tripCoil ↔ (s.feeder f).state = .tripping ∨ (s.feeder f).state = .failed
  contactor : (s.feeder f).contactor → (s.feeder f).state = .testing

/-- A feeder record (Chapters 5 and 6): its operation and its timers belong to its state (R83, R87, R89, R92, R105, R110,
R112, R113), its hold reasons follow what they stand for (R13, R121, R180), and Feeder Protection's copy agrees (R62). -/
structure State.FeederOk (s : State) (f : Feeder) : Prop where
  outputs : s.OutputsOk f
  copy : (s.prot f).copy = (s.feeder f).state
  close : (s.feeder f).op = .close ↔ (s.feeder f).state = .closing
  trip : (s.feeder f).op = .trip ↔ (s.feeder f).state = .tripping ∨ (s.feeder f).state = .failed
  contactor : (s.feeder f).op = .testContactor ↔ (s.feeder f).contactor
  topen : (s.feeder f).topen.isSome ↔ (s.feeder f).state = .tripping
  tclose : (s.feeder f).tclose.isSome ↔ (s.feeder f).state = .closing
  dead : (s.feeder f).dead.isSome ↔
    (s.feeder f).state = .tripped ∧ (s.feeder f).role = some .leader ∧ (s.feeder f).holds.isEmpty
  follow : (s.feeder f).follow.isSome → (s.feeder f).state = .tripped ∧ (s.feeder f).role = some .follower
  live : (s.feeder f).live ≠ .stopped → (s.feeder f).state = .tripped ∧ (s.feeder f).role = some .follower
  test : (s.feeder f).test.isSome ↔ (s.feeder f).state = .testing
  lane : (s.feeder f).holds.lane = s.laneHold f
  interlock : (s.feeder f).holds.interlock = s.interlocked f
  peerTesting : (s.feeder f).holds.peerTesting = s.lowerNotice f
  starting : s.cl.mode = .starting → (s.feeder f).state = .opened

def State.FeedersOk (s : State) : Prop := ∀ f, s.FeederOk f

/-- A port (sections 7.1 to 7.3): its queues keep their lengths (R130, R131), a frame is in hand exactly while the port is
not IDLE (R126), each timer runs in its own state, and the port waits for a busy segment (R126). -/
structure State.PortOk (s : State) (p : Port) : Prop where
  urgent : (s.port p).urgent.length ≤ 8
  routine : (s.port p).routine.length ≤ 16
  idle : (s.port p).tx = .idle ↔ (s.port p).hand = none
  waiting : (s.port p).hand = none → (s.port p).urgent = [] ∧ (s.port p).routine = []
  inHand : (s.port p).hand.isSome → (s.port p).inHand.isSome
  gap : (s.port p).gapTimer.isSome ↔ (s.port p).tx = .gap
  backoff : (s.port p).backoffTimer.isSome ↔ (s.port p).tx = .backoff
  send : (s.port p).sendEnd.isSome ↔ (s.port p).tx = .send
  line : (s.port p).line ≠ [] ↔ (s.port p).tx = .send
  attempts : (s.port p).attempts < 16
  gapIdle : (s.port p).tx = .gap → s.pins.busy[p] = false
  deferBusy : (s.port p).tx = .defer → s.pins.busy[p] = true
  active : (s.port p).quietTimer.isSome ↔ (s.port p).state = .active
  off : (s.port p).state = .off → (s.port p).tx = .idle
  window : (s.port p).errorWindow.length ≤ 7
  counters : (s.port p).errors ≤ 32767 ∧ (s.port p).drops ≤ 32767

/-- The Pilot Port controller: both ports, the seen list without a pair twice (R136), and the listener list without a
station twice (R140). -/
structure State.PilotOk (s : State) : Prop where
  ports : ∀ p, s.PortOk p
  seen : s.pp.seen.length ≤ 32 ∧ s.pp.seen.Nodup
  listeners : s.pp.listeners.length ≤ 8 ∧ (s.pp.listeners.map (·.station)).Nodup

/-- A peer entry (sections 8.1 and 8.2): a FRESH one has been heard and its stale timer runs, an unpinned STALE one that
has been heard is on its way out (R145, R146), and a pinned STALE one is being located (R148). -/
structure PeerEntry.Ok (e : PeerEntry) : Prop where
  fresh : e.health = .fresh ↔ e.staleTimer.isSome
  heard : e.health = .fresh → e.contents.isSome ∧ e.reach.isSome ∧ e.lastHeard.isSome
  removal : e.removalTimer.isSome → e.pinned = false ∧ e.health = .stale
  locateTimer : e.locateTimer.isSome ↔ e.locate ≠ .idle
  unpinned : e.pinned = false → e.locate = .idle
  located : e.pinned → e.health = .stale → e.locate ≠ .idle

/-- An intertrip sender record (section 8.4): the repeat timer runs in SENDING, the confirm timer while the confirmation
waits, and a record watches only for a confirmation (R152 to R154). -/
structure SenderRec.Ok (r : SenderRec) : Prop where
  sending : r.repeatTimer.isSome ↔ r.state = .sending
  waiting : r.confirmTimer.isSome ↔ r.confirmation = some .waiting
  watching : r.state = .watching → r.confirmation = some .waiting
  index : r.state = .sending → r.nextIndex ≤ 9

/-- The Section Coordinator: the peer table keeps its length, no station twice in it (R145), every entry and sender
record, the load index in its range (R157), and the dwell and decay timers of the load condition (R158 to R160). -/
structure State.CoordinatorOk (s : State) : Prop where
  table : s.sc.peers.length ≤ 16 ∧ (s.sc.peers.map (·.station)).Nodup
  pinned : (s.sc.peers.filter (·.pinned)).length ≤ 4
  peers : ∀ e ∈ s.sc.peers, e.Ok
  senders : ∀ f, (s.sender f).Ok
  load : s.sc.load ≤ 250
  dwell : s.sc.dwellTimer.isSome ↔ s.sc.condition ≠ .none
  decay : s.sc.decayTimer.isSome → s.sc.condition = .none ∧ s.sc.trim ≠ 0

/-- Two entries of the alarm table that do not merge: another kind or object, or one of them taken by the gateway
(R162). -/
def Alarm.apart (a b : Alarm) : Prop :=
  a.kind ≠ b.kind ∨ a.object ≠ b.object ∨ a.state = .accepted ∨ b.state = .accepted

/-- The Report Controller (Chapter 9): the table keeps its length and merges what it can (R162, R163), one entry at most is
with the gateway and those alone have a tag (R165), and no entry waits that should be presented (R165, R166). -/
structure Reports.Ok (r : Reports) : Prop where
  length : r.table.length ≤ 32
  apart : r.table.Pairwise Alarm.apart
  slot : (r.table.filter (·.state != .pending)).length ≤ 1
  tags : ∀ e ∈ r.table, e.tag.isSome ↔ e.state ≠ .pending
  counts : ∀ e ∈ r.table, 1 ≤ e.count ∧ e.count ≤ 65535
  floor : r.floor ≤ 16
  judged : r.slot = none → r.bestCandidate = none
  urgent : ∀ e, r.presented = some e → r.displaced e = false

/-- Everything above together. -/
structure State.Ok (s : State) : Prop where
  loader : s.LoaderOk
  lanes : s.LanesOk
  timebase : s.TimebaseOk
  firing : s.FiringOk
  feeders : s.FeedersOk
  pilot : s.PilotOk
  coordinator : s.CoordinatorOk
  reports : s.rc.Ok

/-! ### Changes of the tracker and of standby -/

/-- The tracker has just entered SEEK: its record is as R25 says, P, the phase, the given amplitude and the sources are
as they were, and TIMEBASE keeps every group from firing (R32). -/
structure State.Sought (s t : State) : Prop where
  tracker : t.st.tracker = .seek ∧ t.st.window = [] ∧ t.st.stepLoss = 0 ∧ t.st.goodCrossings = 0
  active : t.st.active = s.firstClear
  timers : t.st.seekTimer = some (s.clock + 1000000) ∧ t.st.holdoverTimer = none ∧ t.st.retryTimer = none
  kept : t.st.sources = s.st.sources ∧ t.st.period = s.st.period ∧ t.st.phase = s.st.phase ∧ t.st.vamp = s.st.vamp ∧
    t.st.failures = s.st.failures
  timebase : ∀ g, (s.group g).state ≠ .off → (t.group g).causes.timebase
  quiet : s.FiringOk → ∀ g, (t.group g).state.fires = false
  frame : s.onlyStFcPpRc t

/-- The station has just woken, if it was in standby (R58): standby is over and its cause removed from both groups. A
station that was awake is as it was. -/
structure State.Woken (s t : State) : Prop where
  awake : t.fc.standby = false
  record : s.fc.standby → t.fc.entryTime = none ∧ t.fc.wakeTimer = none
  causes : s.fc.standby → ∀ g, (s.group g).state ≠ .off → (t.group g).causes = (s.group g).causes.put .standby false
  group : s.fc.standby → ∀ g, (s.group g).state = .blocked → (s.group g).causes.standby →
    (t.group g).state = if ((s.group g).causes.put .standby false).isEmpty then .starting else .blocked
  same : s.fc.standby = false → t.fc = s.fc ∧ t.sc = s.sc
  settings : t.fc.vset = s.fc.vset

/-! ### Changes of a feeder -/

/-- A trip of a feeder has just started (R83, R84, R86): its record, the last-trip record, the intertrip of a protection
trip, and the waking of a station in standby (R57). -/
structure State.TripStarted (s t : State) (f : Feeder) (cause : Cause) (origin : Option Byte) : Prop where
  feeder : t.feeder f =
    { s.feeder f with
      state := .tripping, op := .trip, tripCause := some cause,
      after := some ((s.feeder f).afterTrip (s.feederSet f).nmax cause), role := tripRole cause,
      topen := some (s.clock + (s.feederSet f).topen * 1000), tclose := none, reclaim := none, tripCoil := true,
      closeCoil := false }
  copy : (t.prot f).copy = .tripping
  record : ∃ r, (t.prot f).record = some r ∧ r.cause = cause ∧ r.observed = false ∧ r.time = s.time ∧
    r.origin = origin ∧ r.vl = s.vl f ∧ r.repeats = 0
  intertrip : cause.intertrips → (s.feederSet f).farStation ≠ 0 →
    (t.sender f).state = .sending ∧ (t.sender f).cause = some cause ∧ (t.sender f).tripTime = some s.time ∧
      (t.sender f).nextIndex = 1 ∧ (t.sender f).repeatTimer = some (s.clock + 20000)
  noIntertrip : cause.intertrips = false ∨ (s.feederSet f).farStation = 0 → t.sc.senders = s.sc.senders
  woken : t.fc.standby = false ∧ (s.fc.standby = false → t.fc = s.fc)
  others : s.otherFeedersKept t f ∧ ∀ f', f' ≠ f → t.sender f' = s.sender f'
  frame : s.onlyFcFpFsPpScRc t

/-- A feeder has just entered TRIPPED with a role (R105, R109): the dead time of a leader without a hold reason runs, and
the follow timer of a follower whose section allows live-line closing. -/
def State.TrippedAs (s t : State) (f : Feeder) (role : Role) : Prop :=
  (t.feeder f).state = .tripped ∧ (t.feeder f).role = some (s.trippedRole f role) ∧ (t.feeder f).op = .none ∧
    (t.feeder f).after = none ∧ (t.feeder f).live = .stopped ∧
    (t.feeder f).dead =
      (if s.trippedRole f role = .leader ∧ (t.feeder f).holds.isEmpty then
        some (s.clock + (s.feederSet f).tdead * 1000) else none) ∧
    (t.feeder f).follow =
      (if s.trippedRole f role = .follower then some (s.clock + (s.feederSet f).tfollow * 1000) else none)

/-- A feeder has just entered LOCKOUT (R98): its reclose has ended and neither its close coil nor its operation goes
on. -/
def State.LockedOut (t : State) (f : Feeder) : Prop :=
  (t.feeder f).state = .lockout ∧ (t.feeder f).role = none ∧ (t.feeder f).op = .none ∧ (t.feeder f).after = none ∧
    (t.feeder f).dead = none ∧ (t.feeder f).follow = none ∧ (t.feeder f).live = .stopped ∧
    (t.feeder f).reclaim = none

/-- A feeder has just entered OPEN (R86, R92, R97, R101, R119) with an attempt count. -/
def State.Opened (t : State) (f : Feeder) (attempts : Nat) : Prop :=
  (t.feeder f).state = .opened ∧ (t.feeder f).role = none ∧ (t.feeder f).op = .none ∧ (t.feeder f).after = none ∧
    (t.feeder f).tripCause = none ∧ (t.feeder f).dead = none ∧ (t.feeder f).follow = none ∧
    (t.feeder f).live = .stopped ∧ (t.feeder f).attempts = attempts

/-- A close of a feeder has just been driven (R89). -/
def State.CloseDriven (s t : State) (f : Feeder) : Prop :=
  (t.feeder f).state = .closing ∧ (t.feeder f).closeCoil ∧ (t.feeder f).contactor = false ∧
    (t.feeder f).op = .close ∧ (t.feeder f).tclose = some (s.clock + (s.feederSet f).tclose * 1000) ∧
    (t.feeder f).dead = none ∧ (t.feeder f).follow = none ∧ (t.feeder f).live = .stopped ∧
    (t.prot f).copy = .closing

/-- A trip of a feeder has just been completed (R85, R86): the coil is released and the after-state entered. -/
def State.TripCompleted (s t : State) (f : Feeder) : Prop :=
  (t.feeder f).tripCoil = false ∧ (t.feeder f).topen = none ∧ (t.feeder f).op = .none ∧
    ((s.feeder f).after = some .lockout → t.LockedOut f) ∧
    ((s.feeder f).after = some .opened → t.Opened f (s.feeder f).attempts) ∧
    (∀ role, (s.feeder f).after = some .tripped → (s.feeder f).role = some role → (s.feeder f).blocked = false →
      s.TrippedAs t f role) ∧
    ((s.feeder f).after = some .tripped → (s.feeder f).blocked = true → t.LockedOut f)

/-! ### What samples do to a feeder -/

/-- The LOWV timer of a CLOSED feeder after a valid sample that leaves VL and VB at these values (R68). -/
def State.lowvTimerAt (s : State) (f : Feeder) (vl vb : Int) : Timer :=
  if vl < (s.feederSet f).vlow ∧ (s.feederSet f).vsupplyMin ≤ vb then
    (s.prot f).lowvTimer <|> some (s.clock + (s.feederSet f).tlow * 1000)
  else none

/-- The test record of a feeder after a valid sample that leaves VL and VB at these values (R116). -/
def State.testAt (s : State) (f : Feeder) (vl vb : Int) : Option TestRec :=
  (s.feeder f).test.map fun r =>
    if r.stage = .secondHalf ∧ (vl < vb * (s.feederSet f).ktest / 256 ∨ vb < (s.feederSet f).vsupplyMin) then
      { r with agreement := some false }
    else r

/-- What an event of one feeder leaves when it starts no trip and no intertrip. -/
def State.FeederFrame (s t : State) (f : Feeder) : Prop := s.otherFeedersKept t f ∧ s.onlyFpFsPpRc t

end Sys2Proof.Machine
end

