-- ==== Sys2Proof/Certificates/Slice0/Obligations.lean ====
section
/-! DEFINITION. The statements for the provers, one definition for each entry of OBLIGATIONS.json. -/

open Sys2Proof Sys2Proof.Machine

/-! ### Steps, reset and start-up -/

/-- A step takes the command at the front of the queue and runs it with the queue's rest. The queue is the model's own
(log 3). -/
def Obligations.StepRunsFrontCommand : Prop :=
  ∀ (c : Instr) (rest : List Instr) (s : State), s.pending = c :: rest → step s = exec c { s with pending := rest }

/-- What the spec gives the part at the end of reset: R1's lanes, R16's tracker and sources, R35's groups with their
causes, R79's feeders, R124's ports and R161's alarm table; and that state meets every condition that a step keeps. The
levels at the pins are the model's choice (log 4), and the seek window and good-crossing count at reset log 57. -/
def Obligations.ResetState : Prop :=
  let s := State.reset
  s.clock = 0 ∧ s.cl.mode = .starting ∧ s.cl.settings = none ∧ s.cl.clampCount = 0 ∧ s.cl.restartTimer = none ∧
    (∀ l, s.lane l = { value := 0, health := .stale, invalidRun := 0, goodRun := 0, silence := none }) ∧
    s.li.ibus = 0 ∧ (∀ f : Feeder, s.li.di[f] = 0 ∧ s.li.prev[f] = 0) ∧
    s.st.tracker = .off ∧ s.st.active = none ∧ s.st.period = 320000 ∧ phaseStep s.st.period = 1179648 ∧
    s.st.phase = 0 ∧ s.st.vamp = 0 ∧ (∀ src, (s.source src).squelched ∧ (s.source src).amplitude = 0) ∧
    (∀ g, (s.group g).state = .blocked ∧ (s.group g).causes.timebase ∧ (s.group g).causes.supply ∧
      (s.group g).causes.measure ∧ (s.group g).pulse = none ∧ (s.group g).armed = none) ∧
    (∀ f, (s.feeder f).state = .opened ∧ (s.feeder f).holds.lane ∧ (s.feeder f).closeCoil = false ∧
      (s.feeder f).tripCoil = false ∧ (s.feeder f).contactor = false) ∧
    (∀ p, (s.port p).state = .off) ∧ s.pp.seq = 0 ∧
    s.rc.table = [] ∧ s.rc.tag = 0 ∧ s.rc.floor = 16 ∧ s.rc.overflow = false ∧ s.rc.lastResult = none ∧
    (∀ i, (s.input i).active = false ∧ (s.input i).changed = false) ∧
    s.Ok

/-- RESET with a station number on the straps puts every record in its reset state, reads the contacts as they stand
and starts the read of the image. With no station number on them it leads to CONFIG FAULT: the ports stay OFF, and
every feeder found closed is tripped with cause CONTROL. That the levels at the pins and the waiting commands stay, and
that the feeders are tripped while the ports are OFF, is the model's (log 6, 28). So is 1 as the reset value of the
backoff and load-sharing registers (log 5), and the reset values of a sender record's index and confirmation (log 53)
and of the seek window and good-crossing count (log 57). -/
def Obligations.ResetCommand : Prop :=
  (∀ (straps : Byte) (s : State), 1 ≤ straps.toNat → straps.toNat ≤ 250 →
     ∃ t, exec (.reset straps) s = .next t ∧
       t.cl = { station := straps, mode := .starting, settings := none, clampCount := 0, restartTimer := none,
                readTimer := some 500000 } ∧
       t.clock = 0 ∧ t.li = .reset ∧ t.st = .reset ∧ t.fc = .reset ∧ t.fp = .reset ∧ t.pp = .reset ∧ t.sc = .reset ∧
       t.rc = .reset ∧ t.im = .reset ∧ (∀ f : Feeder, t.feeder f = FeederRec.reset s.pins.contacts[f]) ∧
       t.pins = { s.pins with straps := straps } ∧ t.pending = s.pending) ∧
  (∀ (straps : Byte) (s : State), straps.toNat = 0 ∨ 250 < straps.toNat →
     ∃ t, exec (.reset straps) s = .next t ∧ t.cl.mode = .configFault ∧ t.cl.settings = none ∧ t.cl.readTimer = none ∧
       t.clock = 0 ∧ t.li = .reset ∧ t.st = .reset ∧ t.im = .reset ∧ (∀ p, (t.port p).state = .off) ∧
       (∀ f : Feeder, s.pins.contacts[f] = true →
         (t.feeder f).state = .tripping ∧ (t.feeder f).tripCoil ∧ (t.feeder f).tripCause = some .control) ∧
       (∀ f : Feeder, s.pins.contacts[f] = false →
         (t.feeder f).state = .opened ∧ (t.feeder f).tripCoil = false ∧ (t.feeder f).closeCoil = false) ∧
       t.pins = { s.pins with straps := straps } ∧ t.pending = s.pending)

/-- IMAGE_READ_COMPLETE with a good image: the clamped settings are handed over and the station runs. Each enabled
feeder is adopted from its contact: OPEN, or CLOSED, and tripped at once with cause LANE where its current lane is
STALE. There is one pinned, located entry for each far station named. Each enabled port is ACTIVE and each other one as
it was, and the tracker seeks when a source is ranked. CONFIG CLAMPED is raised with the count as detail, unless it is
0. An image is accepted when its head, CRC, station and gateways are right, and the read goes on while bytes are
missing. Each setting is read from its bytes and clamped to its range, then the cross clamps are made, and the count
says how many were changed, at most 255. That a good image is handed over in the step that takes its bytes, and what
counts as one, follows log 26; how a Dend above Dstart counts is log 47. -/
def Obligations.ImageAccepted : Prop :=
  (∀ (image : List Byte) (s : State), s.LoaderOk → s.TimebaseOk → s.cl.readTimer.isSome →
     checkImage image s.cl.station = .accepted →
     ∃ t, exec (.imageReadComplete image) s = .next t ∧
       t.cl = { s.cl with mode := .running, settings := some (imageSettings image), clampCount := clampCount image,
                          readTimer := none } ∧
       t.fc.vset = some (imageSettings image).rectifier.vset ∧
       t.st.tracker = (if (imageSettings image).timebase.prefs = [] then .off else .seek) ∧
       (∀ f, (imageSettings image).feeders[f].enabled = true →
         (t.feeder f).attempts = 0 ∧ (t.prot f).copy = (t.feeder f).state ∧
         ((s.feeder f).contact = false → (t.feeder f).state = .opened) ∧
         ((s.feeder f).contact = true → s.laneFresh (currentLane f) = true → (t.feeder f).state = .closed) ∧
         ((s.feeder f).contact = true → s.laneFresh (currentLane f) = false →
           (t.feeder f).state = .tripping ∧ (t.feeder f).tripCoil = true ∧ (t.feeder f).tripCause = some .lane)) ∧
       (∀ f, (imageSettings image).feeders[f].enabled = false → (s.feeder f).state = .opened →
         (t.feeder f).state = .opened ∧ (t.prot f).copy = (s.prot f).copy) ∧
       (t.sc.peers.map (·.station)).Nodup ∧
       (∀ n, n ∈ t.sc.peers.map (·.station) ↔
         n ≠ 0 ∧ ∃ f : Feeder, (imageSettings image).feeders[f].farStation = n) ∧
       (∀ e ∈ t.sc.peers,
         e = { station := e.station, pinned := true, reach := none, health := .stale, lastHeard := none,
               staleTimer := none, removalTimer := none, contents := none, locate := .first,
               locateTimer := some (s.clock + 1000000) }) ∧
       (s.rc.table = [] →
         (clampCount image = 0 → ∀ e ∈ t.rc.table, e.kind ≠ .configClamped) ∧
         (clampCount image ≠ 0 →
           ∃ e ∈ t.rc.table, e.kind = .configClamped ∧ e.object = .station ∧ e.priority = 9 ∧ e.cause = none ∧
             e.count = 1 ∧ e.detail = some (clampCount image : Int))) ∧
       (∀ p, (t.port p).state = if (imageSettings image).portEnabled[p] then .active else (s.port p).state) ∧
       t.pp.statusTimer = some (s.clock + 100000) ∧
       (∀ i, (t.input i).changed = false ∧ (t.input i).timer = none) ∧
       t.clock = s.clock ∧ t.pins = s.pins ∧ t.li = s.li ∧ t.pending = s.pending) ∧
  (∀ (image : List Byte) (straps : Byte),
     let b (o : Nat) : Nat := (image.getD o 0).toNat
     let head := b 0 = 1 ∧ b 1 * 256 + b 2 = 347
     (checkImage image straps = .accepted ↔
       347 ≤ image.length ∧ head ∧ (crc16 (image.take 345)).toNat = b 345 * 256 + b 346 ∧ b 3 = straps.toNat ∧
         1 ≤ b 4 ∧ b 4 ≤ 250 ∧ b 5 ≤ 250) ∧
     (checkImage image straps = .unfinished ↔ image.length < 3 ∨ (head ∧ image.length < 347))) ∧
  (∀ image : List Byte, 347 ≤ image.length →
     let n (o k : Nat) : Nat := ((List.range k).map fun j => (image.getD (o + j) 0).toNat * 256 ^ (k - 1 - j)).sum
     let bit (o j : Nat) : Bool := (image.getD o 0).getLsbD j
     let v (o k : Nat) (lo hi : Int) : Int := max lo (min hi (n o k))
     let x (o k lo hi : Nat) : Nat := if lo ≤ n o k ∧ n o k ≤ hi then 0 else 1
     let c := imageSettings image
     let vmin := v 77 2 5000 9000
     let vmax := max vmin (v 79 2 5000 9000)
     let codes := [n 70 1, n 71 1, n 72 1]
     let named := codes.filter fun k => decide (1 ≤ k) && decide (k ≤ 3)
     let rectifierRows : List (Nat × Nat) :=
       [(5000, 9000), (5000, 9000), (5000, 9000), (0, 200), (0, 1024), (0, 256), (50, 300), (900, 1500), (500, 8000),
         (500, 8000), (1000, 12000), (1000, 10000), (50, 300), (5000, 8000), (1, 50), (0, 300), (5, 100), (500, 10000)]
     let feederRows : List (Nat × Nat × Nat × Nat) :=
       [(1, 2, 1000, 12000), (3, 2, 5, 500), (5, 2, 1, 65535), (7, 2, 200, 8000), (9, 2, 10, 1000), (11, 2, 1000, 7000),
         (13, 2, 20, 5000), (15, 2, 3000, 8000), (17, 2, 20, 200), (19, 2, 50, 400), (21, 2, 10, 500), (23, 1, 0, 3),
         (24, 2, 500, 60000), (26, 2, 200, 3000), (28, 1, 64, 240), (29, 2, 1000, 8000), (31, 4, 5000, 120000),
         (35, 4, 5000, 600000), (39, 2, 1, 999), (41, 1, 0, 250), (42, 1, 1, 4)]
     c.gateway1 = image.getD 4 0 ∧ c.gateway2 = image.getD 5 0 ∧ c.portEnabled = #v[bit 6 0, bit 6 1] ∧
     c.junction = bit 6 2 ∧ c.loopMark = bit 6 3 ∧ c.tstale = (v 283 2 300 2000).toNat ∧
     (∀ l : Lane, c.lanes[l] =
       { gain := v (7 + 4 * l.val) 2 1 65535,
         offset := max (-32767) (BitVec.ofNat 16 (n (9 + 4 * l.val) 2)).toInt }) ∧
     c.timebase =
       { frequency := if n 63 1 = 60 then 60 else 50, vnom := v 64 2 2000 8000, vsq := v 66 2 500 6000,
         thold := (v 68 2 20 500).toNat, prefs := named.eraseDups.map fun k => Fin.ofNat 3 (k - 1),
         invert := #v[bit 73 0, bit 73 1, bit 73 2] } ∧
     c.rectifier =
       { enabled := #v[bit 74 0, bit 74 1], vset := max vmin (min vmax (v 75 2 5000 9000)), vmin, vmax,
         droop := v 81 2 0 200, kp := v 83 2 0 1024, ki := v 85 2 0 256, alphaMin := v 87 2 50 300,
         alphaMax := v 89 2 900 1500, ilim := #v[v 91 2 500 8000, v 93 2 500 8000], igfault := v 95 2 1000 12000,
         irated := v 97 2 1000 10000, pulseWidth := v 99 2 50 300, vwake := v 101 2 5000 8000, tstep := v 103 2 1 50,
         tmax := v 105 2 0 300, bband := v 107 2 5 100, tdw := (v 109 2 500 10000).toNat } ∧
     (∀ f : Feeder,
       let o := 111 + 43 * f.val
       c.feeders[f] =
         { enabled := bit o 0, observe := bit o 1, liveLineAllowed := bit o 2, imax := v (o + 1) 2 1000 12000,
           dstart := v (o + 3) 2 5 500, dend := min (v (o + 3) 2 5 500) (v (o + 5) 2 1 65535),
           deltaTrip := v (o + 7) 2 200 8000, trise := (v (o + 9) 2 10 1000).toNat, vlow := v (o + 11) 2 1000 7000,
           tlow := (v (o + 13) 2 20 5000).toNat, vsupplyMin := v (o + 15) 2 3000 8000,
           topen := (v (o + 17) 2 20 200).toNat, tclose := (v (o + 19) 2 50 400).toNat, ioff := v (o + 21) 2 10 500,
           nmax := (v (o + 23) 1 0 3).toNat, tdead := (v (o + 24) 2 500 60000).toNat,
           ttest := (v (o + 26) 2 200 3000).toNat, ktest := v (o + 28) 1 64 240, vlive := v (o + 29) 2 1000 8000,
           tfollow := (v (o + 31) 4 5000 120000).toNat, treclaim := (v (o + 35) 4 5000 600000).toNat,
           sectionId := BitVec.ofInt 16 (v (o + 39) 2 1 999), farStation := BitVec.ofInt 8 (v (o + 41) 1 0 250),
           farFeeder := BitVec.ofInt 8 (v (o + 42) 1 1 4) }) ∧
     (∀ i : Input,
       let o := 285 + 5 * i.val
       let target := n (o + 3) 1
       c.inputs[i] =
         { inverted := bit o 0, risingAlarm := bit o 1, fallingAlarm := bit o 2, debounce := (v (o + 1) 1 1 100).toNat,
           role :=
             if n (o + 2) 1 = 1 then .alarm
             else if n (o + 2) 1 = 2 then .interlock (Fin.ofNat 4 (max 1 (min 4 target) - 1))
             else if n (o + 2) 1 = 3 then .groupBlock (Fin.ofNat 2 (max 1 (min 2 target) - 1))
             else if n (o + 2) 1 = 4 then .door else .none,
           priority := (v (o + 4) 1 0 15).toNat }) ∧
     clampCount image =
       min 255
         (((List.range 14).map fun l => x (7 + 4 * l) 2 1 65535 + if n (9 + 4 * l) 2 = 32768 then 1 else 0).sum +
           ((if n 63 1 = 50 ∨ n 63 1 = 60 then 0 else 1) + x 64 2 2000 8000 + x 66 2 500 6000 + x 68 2 20 500 +
             (codes.filter fun k => decide (3 < k)).length + (named.length - named.eraseDups.length)) +
           ((rectifierRows.zipIdx.map fun r => x (75 + 2 * r.2) 2 r.1.1 r.1.2).sum +
             (if v 79 2 5000 9000 < vmin then 1 else 0) +
             (if vmin ≤ v 75 2 5000 9000 ∧ v 75 2 5000 9000 ≤ vmax then 0 else 1)) +
           ((List.range 4).map fun f =>
             let o := 111 + 43 * f
             (feederRows.map fun r => x (o + r.1) r.2.1 r.2.2.1 r.2.2.2).sum +
               if v (o + 3) 2 5 500 < v (o + 5) 2 1 65535 then 1 else 0).sum +
           x 283 2 300 2000 +
           ((List.range 12).map fun i =>
             let o := 285 + 5 * i
             let role := n (o + 2) 1
             x (o + 1) 1 1 100 + x (o + 4) 1 0 15 +
               if role = 2 then x (o + 3) 1 1 4 else if role = 3 then x (o + 3) 1 1 2 else if 4 < role then 1 else 0).sum))

/-- IMAGE_READ_COMPLETE with a bad image, and IMAGE_READ_TIMEOUT 500 ms after the start of the read: CONFIG FAULT with
both ports ACTIVE and the STATUS timer running, every closed feeder tripped with cause CONTROL, and no hand-over. An
expiry acts when its timer is running and due, the model's reading (log 2). That the bytes arrive at once is log 26,
and the order of the trips and the ports log 28. -/
def Obligations.ImageRejected : Prop :=
  ∀ (image : List Byte) (s : State),
    (s.cl.readTimer.isSome → checkImage image s.cl.station = .bad →
      ∃ t, exec (.imageReadComplete image) s = .next t ∧ exec .imageReadTimeout { s with cl := { s.cl with readTimer := some s.clock } } = .next t) ∧
    (Timer.due s.cl.readTimer s.clock →
      ∃ t, exec .imageReadTimeout s = .next t ∧ t.cl = { s.cl with mode := .configFault, readTimer := none } ∧
        (∀ p, (t.port p).state = .active ∧ (t.port p).quietTimer = some (s.clock + 2000000)) ∧
        t.pp.statusTimer = some (s.clock + 100000) ∧
        (∀ f, (s.feeder f).contact →
          (t.feeder f).state = .tripping ∧ (t.feeder f).tripCoil ∧ (t.feeder f).tripCause = some .control) ∧
        (∀ f, (s.feeder f).contact = false → (t.feeder f).state = .opened) ∧
        t.clock = s.clock ∧ t.pins = s.pins ∧ t.li = s.li ∧ t.st = s.st ∧ t.im = s.im ∧ t.pending = s.pending)

/-! ### Lanes -/

/-- SAMPLE_ARRIVAL in the record of its lane: a valid sample sets the value, ends the invalid run and makes the lane
FRESH at a good run of 8; an invalid one holds the value, ends the good run and makes the lane STALE at an invalid run
of 3; each restarts the silence timer at 300 us. SILENCE_TIMER_EXPIRY: the good run is 0, the timer stopped, the lane
STALE, its value and invalid run held. No other lane's record changes; an AC lane touches no feeder and nothing of the
Section Coordinator, a group lane neither the feeders nor the timebase, and a feeder's lane no other feeder's records
and nothing of the timebase. An expiry acts when its timer is running and due, the model's reading (log 2). -/
def Obligations.SampleArrivalLane : Prop :=
  (∀ (l : Lane) (raw : Word16) (s : State), ∃ t, exec (.sampleArrival l raw) s = .next t ∧
     (raw ≠ 32768 → t.lane l =
       { value := s.scaled l raw, invalidRun := 0, goodRun := min 8 ((s.lane l).goodRun + 1),
         health := if 8 ≤ (s.lane l).goodRun + 1 then .fresh else (s.lane l).health,
         silence := some (s.clock + 300) }) ∧
     (raw = 32768 → t.lane l =
       { value := (s.lane l).value, invalidRun := min 3 ((s.lane l).invalidRun + 1), goodRun := 0,
         health := if 3 ≤ (s.lane l).invalidRun + 1 then .stale else (s.lane l).health,
         silence := some (s.clock + 300) }) ∧
     (∀ l', l' ≠ l → t.lane l' = s.lane l') ∧
     t.clock = s.clock ∧ t.pins = s.pins ∧ t.im = s.im ∧ t.cl = s.cl ∧ t.pending = s.pending) ∧
  (∀ (l : Lane) (s : State), Timer.due (s.lane l).silence s.clock →
     ∃ t, exec (.silenceTimerExpiry l) s = .next t ∧
       t.lane l = { s.lane l with goodRun := 0, silence := none, health := .stale } ∧
       (∀ l', l' ≠ l → t.lane l' = s.lane l') ∧
       t.clock = s.clock ∧ t.pins = s.pins ∧ t.im = s.im ∧ t.cl = s.cl ∧ t.pending = s.pending) ∧
  (∀ (l : Lane) (raw : Word16) (s t : State),
     exec (.sampleArrival l raw) s = .next t ∨ exec (.silenceTimerExpiry l) s = .next t →
     (∀ src, laneUse l = .source src → t.fs = s.fs ∧ t.fp = s.fp ∧ t.sc = s.sc) ∧
     (∀ g, laneUse l = .group g → t.fs = s.fs ∧ t.fp = s.fp ∧ t.st = s.st ∧ (t.group (other g)).causes = (s.group (other g)).causes) ∧
     (∀ f, laneUse l = .current f ∨ laneUse l = .line f → t.st = s.st ∧ s.otherFeedersKept t f) ∧
     (laneUse l = .busbar → t.st = s.st))

/-- The engineering value of a valid sample: floor(raw * gain / 65536) + offset, saturated to -32767..32767, once the
settings have been handed over; 0 before. -/
def Obligations.SampleScaling : Prop :=
  ∀ (l : Lane) (raw : Word16) (s : State), raw ≠ 32768 → ∃ t, exec (.sampleArrival l raw) s = .next t ∧
    (∀ c, s.cl.settings = some c →
      (t.lane l).value =
        max (-32767) (min 32767 (raw.toInt * c.lanes[l].gain / 65536 + c.lanes[l].offset))) ∧
    (s.cl.settings = none → (t.lane l).value = 0)

/-- The derived quantities of an arrival: di of the feeder whose current lane it is, taken against the previous value
and 0 at the first scaled arrival, and Ibus as the saturated sum of the FRESH group lanes. That the first scaled
arrival is a valid one is log 62. -/
def Obligations.SampleDerived : Prop :=
  ∀ (raw : Word16) (s : State),
    (∀ f : Feeder, ∃ t, exec (.sampleArrival (currentLane f) raw) s = .next t ∧
      t.li.di[f] = (if s.li.primed[f] then saturate (t.current f - s.li.prev[f]) else 0) ∧
      t.li.primed[f] = (s.li.primed[f] || (raw != 32768 && s.cl.settings.isSome)) ∧
      t.li.prev[f] = t.current f ∧ t.li.ibus = s.li.ibus ∧
      (∀ f' : Feeder, f' ≠ f →
        t.li.di[f'] = s.li.di[f'] ∧ t.li.prev[f'] = s.li.prev[f'] ∧ t.li.primed[f'] = s.li.primed[f'])) ∧
    (∀ g : Group, ∃ t, exec (.sampleArrival (groupLane g) raw) s = .next t ∧
      t.li.ibus = saturate (t.busPart 9 + t.busPart 10) ∧ t.li.di = s.li.di ∧ t.li.prev = s.li.prev ∧
      t.li.primed = s.li.primed)

/-- IMAX and DDL are judged at an arrival on a feeder's current lane alone, and only while the station runs, the feeder
is enabled, the sample is valid and the lane FRESH after it; the runs and the base then follow the elements' rules.
Every other arrival leaves their records as they were, but that a current lane that goes STALE puts them at rest, with
their pick-ups, the base and the peak kept. That a rise's count and low run stand after its end, and are 0 once the
lane is STALE, is log 42. -/
def Obligations.ElementsJudgeValidSamples : Prop :=
  (∀ (f : Feeder) (raw : Word16) (s : State), s.cl.mode = .running → s.feederEnabled f → raw ≠ 32768 →
     (s.lane (currentLane f)).provesFresh →
     ∃ t, exec (.sampleArrival (currentLane f) raw) s = .next t ∧
       (let i := t.current f
        let di := t.li.di[f]
        let m := s.feederSet f
        let p := s.prot f
        let q := t.prot f
        (p.imaxPicked = false → magnitude i < m.imax → q.imaxRun = 0 ∧ q.imaxPicked = false) ∧
        (p.imaxPicked = false → m.imax ≤ magnitude i → p.imaxRun = 0 → q.imaxRun = 1 ∧ q.imaxPicked = false) ∧
        (p.imaxPicked = false → m.imax ≤ magnitude i → p.imaxRun = 1 → q.imaxRun = 0 ∧ q.imaxPicked = true) ∧
        (p.imaxPicked = true → (q.imaxPicked = true ↔ m.imax * 9 / 10 ≤ magnitude i) ∧ q.imaxRun = 0) ∧
        (p.ddlPicked = true →
          (q.ddlPicked = true ↔ m.deltaTrip * 9 / 10 ≤ i - p.ddlBase) ∧ q.ddlRising = p.ddlRising) ∧
        (p.ddlPicked = false → p.ddlRising = false → m.dstart ≤ di → 0 ≤ i - di →
          q.ddlRising = true ∧ q.ddlBase = i - di ∧ q.ddlT = 0 ∧ q.ddlLowRun = 0 ∧ q.ddlPeak = di ∧
            q.ddlPicked = false) ∧
        (p.ddlPicked = false → p.ddlRising = false → (di < m.dstart ∨ i - di < 0) →
          q.ddlRising = false ∧ q.ddlPicked = false) ∧
        (p.ddlPicked = false → p.ddlRising = true → m.deltaTrip ≤ i - p.ddlBase →
          q.ddlRising = false ∧ q.ddlPicked = true ∧ q.ddlBase = p.ddlBase ∧ q.ddlLowRun = 0) ∧
        (p.ddlPicked = false → p.ddlRising = true → i - p.ddlBase < m.deltaTrip →
          q.ddlT = p.ddlT + 1 ∧ q.ddlPeak = max p.ddlPeak (i - p.ddlBase) ∧ q.ddlPicked = false ∧
            q.ddlLowRun = (if di < m.dend then p.ddlLowRun + 1 else 0) ∧
            (q.ddlRising = true ↔ q.ddlLowRun < 3 ∧ q.ddlT < m.trise))) ∧
       ((s.lane (currentLane f)).health = .fresh → (s.feeder f).state = .opened → (s.prot f).copy = .opened →
         t.feeder f = s.feeder f)) ∧
  (∀ (f : Feeder) (l : Lane) (raw : Word16) (s : State), ∃ t, exec (.sampleArrival l raw) s = .next t ∧
     (l ≠ currentLane f → (s.prot f).sameElements (t.prot f)) ∧
     (l = currentLane f →
       raw = 32768 ∨ ¬(s.lane l).provesFresh ∨ s.cl.mode ≠ .running ∨ s.feederEnabled f = false →
       (raw = 32768 ∧ (s.lane l).nearStale → (s.prot f).restedElements (t.prot f)) ∧
       (¬(raw = 32768 ∧ (s.lane l).nearStale) → (s.prot f).sameElements (t.prot f))))

/-- A second valid sample in a row at Imax or above trips a CLOSED feeder that is not observed, at the arrival: the
trip coil is driven, the cause is IMAX and the last-trip record says so; an observed feeder stays CLOSED and records
it. -/
def Obligations.ImaxTrips : Prop :=
  ∀ (f : Feeder) (raw : Word16) (s : State), s.cl.mode = .running → s.feederEnabled f → raw ≠ 32768 →
    (s.lane (currentLane f)).health = .fresh → (s.prot f).imaxPicked = false → (s.prot f).imaxRun = 1 →
    (s.prot f).copy = .closed → (s.feeder f).state = .closed → (s.feeder f).contact = true →
    (s.feederSet f).imax ≤ magnitude (s.scaled (currentLane f) raw) →
    ∃ t, exec (.sampleArrival (currentLane f) raw) s = .next t ∧ (t.prot f).imaxPicked = true ∧
      (∃ r, (t.prot f).record = some r ∧ r.cause = .imax ∧ r.observed = (s.feederSet f).observe ∧ r.time = s.time) ∧
      ((s.feederSet f).observe = false →
        (t.feeder f).state = .tripping ∧ (t.feeder f).tripCoil ∧ (t.feeder f).tripCause = some .imax ∧
          (t.feeder f).topen = some (s.clock + (s.feederSet f).topen * 1000) ∧ t.fc.standby = false) ∧
      ((s.feederSet f).observe = true → t.feeder f = s.feeder f) ∧
      s.otherFeedersKept t f ∧ t.clock = s.clock ∧ t.pins = s.pins ∧ t.st = s.st ∧ t.im = s.im ∧ t.cl = s.cl ∧
      t.pending = s.pending

/-- SAMPLE_ARRIVAL on a group's current lane that is FRESH, or that the sample proves so. A value below Igfault ends
the overcurrent run, the first one at Igfault or above begins it, and the second puts FAULT on the group, which no
longer fires, and raises GROUP FAULT with the current as detail. An invalid sample leaves the run, and a group that
holds FAULT or is OFF counts none. The other group is as it was. -/
def Obligations.GroupOvercurrent : Prop :=
  ∀ (g : Group) (raw : Word16) (s : State), ∃ t, exec (.sampleArrival (groupLane g) raw) s = .next t ∧
    (let v := s.scaled (groupLane g) raw
     raw ≠ 32768 → (s.lane (groupLane g)).provesFresh → (s.group g).state ≠ .off →
      (s.group g).causes.fault = false →
       (v < s.rect.igfault → (t.group g).overRun = 0 ∧ (t.group g).causes.fault = false) ∧
       (s.rect.igfault ≤ v → (s.group g).overRun = 0 → (t.group g).overRun = 1 ∧ (t.group g).causes.fault = false) ∧
       (s.rect.igfault ≤ v → (s.group g).overRun ≠ 0 →
         (t.group g).overRun = 0 ∧ (t.group g).causes.fault = true ∧ (t.group g).state = .blocked ∧
           (s.FiringOk → (t.group g).pulse = none ∧ (t.group g).armed = none) ∧
           s.alarmed t .groupFault (.group g) v)) ∧
    (raw = 32768 → ¬(s.lane (groupLane g)).nearStale → t.group g = s.group g) ∧
    ((s.group g).state = .off ∨ (s.group g).causes.fault = true → ¬(s.lane (groupLane g)).nearStale →
      (t.group g).overRun = (s.group g).overRun ∧ (t.group g).causes.fault = (s.group g).causes.fault) ∧
    t.group (other g) = s.group (other g) ∧ t.fs = s.fs ∧ t.fp = s.fp ∧ t.st = s.st

/-- A valid sample on the FRESH busbar lane of a running station. For each enabled feeder: the LOWV timer of a CLOSED
one starts, runs on or stops by the two voltages; SUPPLY is present while the busbar is below Vsupply_min, and its
change starts or stops a dead time; a test in its second half loses its agreement when the line does not follow. In
standby the wake timer runs while the busbar is below Vwake. A valid sample on the FRESH line-side lane of an enabled
feeder does the same to its LOWV timer and its test, ends a LOWV pick-up above the re-arm level, and starts the live
timer of a TRIPPED follower above Vlive or stops it at or below. -/
def Obligations.BusbarAndLineSamples : Prop :=
  (∀ (raw : Word16) (s : State), raw ≠ 32768 → s.cl.mode = .running → s.laneFresh 0 = true →
     ∃ t, exec (.sampleArrival 0 raw) s = .next t ∧
       (∀ f, s.feederEnabled f = true →
         let v := s.scaled 0 raw
         let low := decide (v < (s.feederSet f).vsupplyMin)
         let holds := (s.feeder f).holds.put .supply low
         (s.laneFresh (lineLane f) = true → (s.prot f).copy = .closed → (s.prot f).lowvPicked = false →
           (t.prot f).lowvTimer = s.lowvTimerAt f (s.vl f) v) ∧
         (s.laneFresh (lineLane f) = false ∨ (s.prot f).copy ≠ .closed ∨ (s.prot f).lowvPicked = true →
           t.prot f = s.prot f) ∧
         ((s.feeder f).holds.supply = low →
           t.feeder f = { s.feeder f with test := s.testAt f (s.vl f) v }) ∧
         ((s.feeder f).holds.supply ≠ low →
           t.feeder f =
             { s.feeder f with
               holds, test := s.testAt f (s.vl f) v,
               dead :=
                 if (s.feeder f).state = .tripped ∧ (s.feeder f).role = some .leader ∧ holds.isEmpty = true then
                   (s.feeder f).dead <|> some (s.clock + (s.feederSet f).tdead * 1000)
                 else none })) ∧
       (∀ f, s.feederEnabled f = false → (t.feeder f).holds = (s.feeder f).holds ∧ t.prot f = s.prot f) ∧
       t.fc =
         { s.fc with
           wakeTimer :=
             if s.fc.standby then
               if s.rect.vwake ≤ s.scaled 0 raw then none else s.fc.wakeTimer <|> some (s.clock + 20000)
             else s.fc.wakeTimer } ∧
       t = { s with li := t.li, fc := t.fc, fp := t.fp, fs := t.fs }) ∧
  (∀ (f : Feeder) (raw : Word16) (s : State), raw ≠ 32768 → s.cl.mode = .running → s.feederEnabled f = true →
     s.laneFresh (lineLane f) = true →
     let v := s.scaled (lineLane f) raw
     let m := s.feederSet f
     ∃ t, exec (.sampleArrival (lineLane f) raw) s = .next t ∧
       (t.prot f).lowvPicked = ((s.prot f).lowvPicked && decide (v ≤ m.vlow + m.vlow / 20)) ∧
       (s.laneFresh 0 = true → (s.prot f).copy = .closed → (s.prot f).lowvPicked = false →
         (t.prot f).lowvTimer = s.lowvTimerAt f v s.vb) ∧
       (s.laneFresh 0 = false ∨ (s.prot f).copy ≠ .closed → (t.prot f).lowvTimer = (s.prot f).lowvTimer) ∧
       t.prot f = { s.prot f with lowvPicked := (t.prot f).lowvPicked, lowvTimer := (t.prot f).lowvTimer } ∧
       t.feeder f =
         { s.feeder f with
           live :=
             if (s.feeder f).state = .tripped ∧ (s.feeder f).role = some .follower then
               if v ≤ m.vlive then .stopped
               else if (s.feeder f).live = .stopped then .running (s.clock + 100000) else (s.feeder f).live
             else (s.feeder f).live,
           test := s.testAt f v s.vb } ∧
       s.otherFeedersKept t f ∧ t = { s with li := t.li, fp := t.fp, fs := t.fs })

/-! ### The supply timebase -/

/-- SAMPLE_ARRIVAL of a valid sample on the lane of a ranked source. A crossing of either direction disarms its
detector, and closes the open half cycle: its amplitude and the low and good counts follow, and the counts make the
source SQUELCHED at 2 and CLEAR at 4. It opens the next half cycle and restarts the watch. The amplitude of the active
source becomes the given Vamp in SEEK and LOCKED, and at its change SUPPLY follows Vd0. A sample that makes no crossing
arms the detectors and raises the peak, and changes the tracked phase by the pacing step alone. That a half cycle
counts by its lane's health at its opening is log 14; a quotient by zero is a free value (log 24). -/
def Obligations.CrossingsCloseHalfCycles : Prop :=
  ∀ (src : Source) (raw : Word16) (s : State), src ∈ s.ranked → raw ≠ 32768 →
    let r := s.source src
    let v := s.scaled (sourceLane src) raw
    let vhyst := s.settings.timebase.vnom * 362 / 256 / 20
    let vsq := s.settings.timebase.vsq
    let a := r.peak * 181 / 256
    let pos := r.posArmed || decide (v < -vhyst)
    let neg := r.negArmed || decide (vhyst < v)
    let positive := r.prev.any fun p => pos && decide (p < 0) && decide (0 ≤ v)
    let negative := r.prev.any fun p => neg && decide (0 ≤ p) && decide (v < 0)
    let low := if r.halfOpen then if r.counts ∧ a < vsq then min 2 (r.lowCount + 1) else 0 else r.lowCount
    let good :=
      if r.halfOpen then if r.counts ∧ vsq + vsq / 8 ≤ a ∧ vsq ≤ a then min 4 (r.goodCount + 1) else 0
      else r.goodCount
    ∃ t, exec (.sampleArrival (sourceLane src) raw) s = .next t ∧
      ((positive || negative) = true →
        t.source src =
          { squelched :=
              if r.halfOpen ∧ r.squelched = false ∧ low = 2 then true
              else if r.halfOpen ∧ r.squelched = true ∧ good = 4 then false else r.squelched,
            amplitude := if r.halfOpen then a else r.amplitude, lowCount := low, goodCount := good,
            peak := max v (-v), halfOpen := true, counts := t.laneFresh (sourceLane src), posArmed := pos && !positive,
            negArmed := neg && !negative, prev := some v, invalidSince := 0,
            watch := some (s.clock + if s.settings.timebase.frequency = 60 then 25000 else 30000),
            sinceCrossing := if positive then some 0 else r.sinceCrossing.map (· + 1),
            fraction := if positive then -r.prev.getD 0 * 65536 / (v - r.prev.getD 0) else r.fraction }) ∧
      ((positive || negative) = false →
        t.source src =
            { r with
              posArmed := pos, negArmed := neg, prev := some v, invalidSince := 0,
              peak := if r.halfOpen then max r.peak (max v (-v)) else r.peak,
              sinceCrossing := r.sinceCrossing.map (· + 1) } ∧
          t.st.phase =
            (if s.st.tracker ≠ .off ∧ s.st.pacing = some src then
              (s.st.phase + phaseStep s.st.period) % 235929600
            else s.st.phase) ∧
          t.st.tracker = s.st.tracker ∧ t.st.active = s.st.active ∧ t.st.period = s.st.period) ∧
      (∀ src', src' ≠ src → t.source src' = s.source src') ∧
      ((positive || negative) = true → r.halfOpen = true → s.st.active = some src →
        s.st.tracker = .seek ∨ s.st.tracker = .locked → t.st.vamp = a) ∧
      ((positive || negative) = false ∨ s.st.active ≠ some src → t.st.vamp = s.st.vamp) ∧
      (t.st.vamp ≠ s.st.vamp → ∀ g, (s.group g).state ≠ .off →
        (t.st.vamp * 1382 / 1024 < 1000 → (t.group g).causes.supply = true) ∧
          (1500 ≤ t.st.vamp * 1382 / 1024 → (t.group g).causes.supply = false)) ∧
      s.onlyLiStFcPpScRc t

/-- SAMPLE_ARRIVAL with a positive crossing of the active source, CLEAR and not squelched by it, in the tracker. In
SEEK a good measured period joins the window, a missing or a bad one empties it, and three that agree within 1 % lock
the tracker: P is their mean and the phase at the crossing the offset of the source. In LOCKED P moves by an eighth of
its error and the phase by a quarter of its own, and the third error above 50 in a row, or a P outside its range, leads
to SEEK. In HOLDOVER an error above 50 leads to SEEK, and the second one within 50 locks the tracker and is then taken
as in LOCKED. That a period is measured from any earlier crossing of the source is log 15, and that a P outside its
range is not kept log 41; the phase at a crossing on a lane that does not pace is log 58; that a timer stops when the
tracker leaves its state is log 16; a quotient by zero is a free value (log 24). -/
def Obligations.CrossingsSteerTracker : Prop :=
  ∀ (src : Source) (raw : Word16) (p : Int) (s : State), (s.source src).prev = some p → src ∈ s.ranked → raw ≠ 32768 →
    (s.source src).posArmed = true → p < 0 → 0 ≤ s.scaled (sourceLane src) raw →
    (s.source src).squelched = false → s.st.active = some src →
    ((s.source src).lowCount = 0 ∨ s.settings.timebase.vsq ≤ (s.source src).peak * 181 / 256) →
    let r := s.source src
    let v := s.scaled (sourceLane src) raw
    let f := -p * 65536 / (v - p)
    let since (period : Int) : Int := (65536 - f) * (1 + r.invalidSince) * phaseStep period / 65536
    let measured := r.sinceCrossing.map fun k => ((k : Int) + 1) * 1600 + (f - r.fraction) * 1600 / 65536
    let phase :=
      if s.st.pacing = some src then (s.st.phase + phaseStep s.st.period) % 235929600 else s.st.phase
    let e := (s.offset src - (phase - since s.st.period) % 235929600 / 65536 + 1800) % 3600 - 1800
    let period :=
      match measured with
      | some q => s.st.period + (q - s.st.period) / 8
      | none => s.st.period
    let kept := measured = none ∨ 246154 ≤ period ∧ period ≤ 355556
    let corrected := (phase + e / 4 * 65536) % 235929600
    ∃ t, exec (.sampleArrival (sourceLane src) raw) s = .next t ∧
      (s.st.tracker = .seek →
        ((∀ q, measured = some q → q < 246154 ∨ 355556 < q) →
          t.st.tracker = .seek ∧ t.st.window = [] ∧ t.st.period = s.st.period ∧ t.st.phase = phase) ∧
        (∀ q, measured = some q → 246154 ≤ q → q ≤ 355556 →
          (s.st.window.length < 2 →
            t.st.tracker = .seek ∧ t.st.window = s.st.window ++ [q] ∧ t.st.period = s.st.period ∧
              t.st.phase = phase) ∧
          (∀ a b, s.st.window = [a, b] →
            let lo := min a (min b q)
            let hi := max a (max b q)
            let mean := (a + b + q) / 3
            (lo / 100 < hi - lo →
              t.st.tracker = .seek ∧ t.st.window = [b, q] ∧ t.st.period = s.st.period ∧ t.st.phase = phase) ∧
            (hi - lo ≤ lo / 100 →
              t.st.tracker = .locked ∧ t.st.active = some src ∧ t.st.period = mean ∧
                t.st.phase = (s.offset src * 65536 + since mean) % 235929600 ∧ t.st.failures = 0 ∧
                t.st.stepLoss = 0 ∧ t.st.seekTimer = none ∧ t.st.vamp = (t.source src).amplitude ∧
                ∀ g, (s.group g).state ≠ .off → (t.group g).causes.timebase = false)))) ∧
      (s.st.tracker = .locked →
        (kept → t.st.period = period ∧ t.st.phase = corrected ∧
          (-50 ≤ e → e ≤ 50 → t.st.tracker = .locked ∧ t.st.stepLoss = 0) ∧
          (e < -50 ∨ 50 < e → s.st.stepLoss < 2 → t.st.tracker = .locked ∧ t.st.stepLoss = s.st.stepLoss + 1) ∧
          (e < -50 ∨ 50 < e → 2 ≤ s.st.stepLoss → t.st.tracker = .seek ∧ t.st.stepLoss = 0)) ∧
        (¬kept → t.st.tracker = .seek ∧ t.st.period = s.st.period ∧ t.st.phase = phase)) ∧
      (s.st.tracker = .holdover →
        (e < -50 ∨ 50 < e → t.st.tracker = .seek ∧ t.st.period = s.st.period ∧ t.st.phase = phase) ∧
        (-50 ≤ e → e ≤ 50 → s.st.goodCrossings = 0 →
          t.st.tracker = .holdover ∧ t.st.goodCrossings = 1 ∧ t.st.period = s.st.period ∧ t.st.phase = phase ∧
            t.st.vamp = s.st.vamp) ∧
        (-50 ≤ e → e ≤ 50 → s.st.goodCrossings ≠ 0 → kept →
          t.st.tracker = .locked ∧ t.st.holdoverTimer = none ∧ t.st.stepLoss = 0 ∧ t.st.period = period ∧
            t.st.phase = corrected ∧ t.st.vamp = (t.source src).amplitude) ∧
        (-50 ≤ e → e ≤ 50 → s.st.goodCrossings ≠ 0 → ¬kept → t.st.tracker = .seek ∧ t.st.period = s.st.period)) ∧
      (s.st.tracker ≠ .seek → t.st.tracker = .seek →
        t.st.window = [] ∧ t.st.seekTimer = some (s.clock + 1000000) ∧ t.st.holdoverTimer = none ∧
          ∀ g, (s.group g).state ≠ .off → (t.group g).causes.timebase = true) ∧
      s.onlyLiStFcPpScRc t

/-- CROSSING_WATCH_EXPIRY: the source's counts are 0, no half cycle is open and the source is SQUELCHED; the other
sources, P, the phase and the given amplitude are as they were. SEEK_TIMER_EXPIRY: the seek failure count rises by 1,
up to 255; below 5 failures the tracker seeks on with an empty window and a new seek timer, at 5 it enters FAULT with
no active source and the retry timer at 10 s. HOLDOVER_TIMER_EXPIRY and RETRY_TIMER_EXPIRY put the tracker in SEEK,
which keeps every group that is not OFF from firing. An expiry acts when its timer is running and due, the model's
reading (log 2). That a timer stops when the tracker leaves its state is log 16. -/
def Obligations.TimebaseTimersExpire : Prop :=
  (∀ (src : Source) (s : State), Timer.due (s.source src).watch s.clock →
     ∃ t, exec (.crossingWatchExpiry src) s = .next t ∧
       t.source src =
         { s.source src with squelched := true, watch := none, lowCount := 0, goodCount := 0, halfOpen := false } ∧
       (∀ src', src' ≠ src → t.source src' = s.source src') ∧
       t.st.period = s.st.period ∧ t.st.phase = s.st.phase ∧ t.st.vamp = s.st.vamp ∧
       ((s.source src).squelched = false → s.st.active = some src → s.st.tracker = .locked →
         t.st.tracker = .holdover ∧ t.st.holdoverTimer = some (s.clock + s.settings.timebase.thold * 1000)) ∧
       (s.st.active ≠ some src ∨ (s.source src).squelched = true →
         t.st.tracker = s.st.tracker ∧ t.st.active = s.st.active ∧ t.fc = s.fc ∧ t.pp = s.pp ∧ t.rc = s.rc) ∧
       s.onlyStFcPpRc t) ∧
  (∀ s : State, Timer.due s.st.seekTimer s.clock → s.st.tracker = .seek →
     ∃ t, exec .seekTimerExpiry s = .next t ∧ t.st.failures = min 255 (s.st.failures + 1) ∧
       (s.st.failures + 1 < 5 → t.st.tracker = .seek ∧ t.st.window = [] ∧
         t.st.seekTimer = some (s.clock + 1000000) ∧ t.st.active = s.nextClear ∧ t.fc = s.fc ∧ t.pp = s.pp ∧
         t.rc = s.rc) ∧
       (5 ≤ s.st.failures + 1 → t.st.tracker = .fault ∧ t.st.seekTimer = none ∧ t.st.active = none ∧
         t.st.retryTimer = some (s.clock + 10000000)) ∧
       t.st.sources = s.st.sources ∧ t.st.period = s.st.period ∧ t.st.phase = s.st.phase ∧ s.onlyStFcPpRc t) ∧
  (∀ s : State,
     (Timer.due s.st.holdoverTimer s.clock →
       ∃ t, exec .holdoverTimerExpiry s = .next t ∧ s.Sought t) ∧
     (Timer.due s.st.retryTimer s.clock →
       ∃ t, exec .retryTimerExpiry s = .next t ∧ s.Sought t))

/-! ### Firing -/

/-- STEP_TIMER_EXPIRY: the phase moves on by one phase step and the step timer runs again for 100 us; nothing else
changes. PULSE_END when the tracked phase has reached the end of a group's pulse: both its gate outputs are released;
nothing else changes. An expiry acts when its timer is running and due, the model's reading (log 2). What the fields of
the last pacing step hold is log 17. That a periodic timer runs again from the clock at which its expiry is taken is
log 46. -/
def Obligations.PhaseTimersExpire : Prop :=
  (∀ s : State, Timer.due s.st.stepTimer s.clock →
     exec .stepTimerExpiry s = .next
       { s with
         st :=
           { s.st with
             phase := (s.st.phase + phaseStep s.st.period) % 235929600, stepInUse := phaseStep s.st.period,
             lastStep := s.clock, stepTimer := some (s.clock + 100) } }) ∧
  (∀ (g : Group) (p : Pulse) (s : State), (s.group g).pulse = some p → reached p.endPhase s.phi →
     ∃ t, exec (.pulseEnd g) s = .next t ∧ t.group g = { s.group g with pulse := none } ∧
       (∀ k, t.gate g k = false) ∧ t.group (other g) = s.group (other g) ∧
       t = { s with fc := { s.fc with groups := t.fc.groups } })

/-- FIRING at the armed angle: the pulse of the armed arm begins and lasts for W, both its gate outputs are driven, and
the regulation step arms the next arm with an angle from alpha_min to alpha_max; a firing that the step leaves late is
made at once, with the step after it. The other group's record is not touched. That a chain of late firings is bounded
is log 35, and when FIRING acts log 2; a quotient by zero is a free value (log 24). -/
def Obligations.FiringMakesPulse : Prop :=
  ∀ (g : Group) (a : Armed) (s : State), (s.group g).armed = some a → (s.group g).state.fires →
    reached a.theta s.phi →
    let u := s.modGroup g fun r => { r with prevAlpha := a.alpha }
    let next : Armed :=
      { arm := nextArm a.arm, theta := (naturalAngle g (nextArm a.arm) + u.stepAlpha g) % 3600, alpha := u.stepAlpha g }
    ∃ t, exec (.firing g) s = .next t ∧ t.group (other g) = s.group (other g) ∧ s.onlyFcPpRc t ∧
      (t.group g).causes = (s.group g).causes ∧
      (lead next.theta s.phi < 3000 →
        t.group g =
            { s.group g with
              pulse := some { arm := a.arm, endPhase := (s.phi + s.rect.pulseWidth) % 3600 }, prevAlpha := a.alpha,
              armed := some next, state := u.stepState g, limited := u.overLimit g } ∧
          t.fc.iacc = u.newIacc g ∧ (∀ k, t.gate g k = (k == a.arm || k == companion a.arm))) ∧
      (3000 ≤ lead next.theta s.phi →
        (∃ p, (t.group g).pulse = some p ∧ p.arm ≠ a.arm) ∧
        let v :=
          { s with fc := { s.fc with iacc := u.newIacc g } }.modGroup g fun r =>
            { r with prevAlpha := next.alpha, state := u.stepState g, limited := u.overLimit g }
        let third : Armed :=
          { arm := nextArm next.arm, theta := (naturalAngle g (nextArm next.arm) + v.stepAlpha g) % 3600,
            alpha := v.stepAlpha g }
        (lead third.theta s.phi < 3000 →
          t.group g =
              { s.group g with
                pulse := some { arm := nextArm a.arm, endPhase := (s.phi + s.rect.pulseWidth) % 3600 },
                prevAlpha := next.alpha, armed := some third, state := v.stepState g, limited := v.overLimit g } ∧
            t.fc.iacc = v.newIacc g ∧
            (∀ k, t.gate g k = (k == nextArm a.arm || k == companion (nextArm a.arm)))))

/-- The voltage target of a step lies within Vmin to Vmax, and a negative bus current gives no droop. The step forms
its command from the target, the error and Iacc; Iacc takes the error in, within -256000 to 256000, unless one of the
five conditions skips it; the angle is alpha_reg of the cosine demand, raised by the current limit, and the exit from
STARTING is judged before the fall limit and the clamp. So the angle lies from alpha_min to alpha_max, falls by at most
23 in RUNNING and by at most 2 in STARTING, and rises by at least 11 while the group's current is above its limit,
until alpha_max. alpha_reg never increases as the cosine demand increases and has the values listed for it. The angle
table is computed, not taken from the spec (log 25); a quotient by zero is a free value (log 24), and the limits hold
whatever it is. -/
def Obligations.RegulationLimits : Prop :=
  (∀ s : State, s.rect.vmin ≤ s.rect.vmax →
     s.rect.vmin ≤ s.voltageTarget ∧ s.voltageTarget ≤ s.rect.vmax ∧
     (s.li.ibus ≤ 0 → s.voltageTarget = clampInt s.rect.vmin s.rect.vmax (s.fc.vset.getD s.rect.vset + s.sc.trim)) ∧
     (0 ≤ s.li.ibus → s.voltageTarget =
       clampInt s.rect.vmin s.rect.vmax
         (s.fc.vset.getD s.rect.vset - s.li.ibus * s.rect.droop / 100 + s.sc.trim))) ∧
  (∀ (g : Group) (s : State), s.st.vamp * 1382 / 1024 ≠ 0 →
     let r := s.group g
     let vt := s.voltageTarget
     let vd0 := s.st.vamp * 1382 / 1024
     let e := vt - s.vb
     let trial (iacc : Int) : Int := vt + e * s.rect.kp / 256 + iacc / 256
     let above := s.rect.ilim[g] < s.groupCurrent g
     let skipped :=
       above ∨ (s.group (other g)).limited = true ∨ (vd0 < trial s.fc.iacc ∧ 0 < e) ∨ (trial s.fc.iacc < 0 ∧ e < 0) ∨
         r.state = .starting
     let iacc := if skipped then s.fc.iacc else max (-256000) (min 256000 (s.fc.iacc + e * s.rect.ki))
     let vcmd := max 0 (min vd0 (trial iacc))
     let alphaReg_ := alphaReg (vcmd * 4096 / vd0)
     let alpha := if above then max alphaReg_ (r.prevAlpha + 11) else alphaReg_
     let state := if r.state = .starting ∧ (r.prevAlpha - 2 ≤ alpha ∨ vt - 100 ≤ s.vb) then .running else r.state
     s.newIacc g = iacc ∧ s.command g = vcmd ∧ s.regulated g = alphaReg_ ∧ s.overLimit g = decide above ∧
       s.limitedAlpha g = alpha ∧ s.stepState g = state ∧
       s.stepAlpha g =
         max s.rect.alphaMin
           (min s.rect.alphaMax (max alpha (r.prevAlpha - if state = .starting then 2 else 23)))) ∧
  (∀ (g : Group) (s : State), s.rect.alphaMin ≤ s.rect.alphaMax →
     s.rect.alphaMin ≤ s.stepAlpha g ∧ s.stepAlpha g ≤ s.rect.alphaMax ∧
     ((s.group g).prevAlpha ≤ s.rect.alphaMax → (s.group g).prevAlpha - 23 ≤ s.stepAlpha g) ∧
     ((s.group g).prevAlpha ≤ s.rect.alphaMax → s.stepState g = .starting →
       (s.group g).prevAlpha - 2 ≤ s.stepAlpha g) ∧
     (s.rect.ilim[g] < s.groupCurrent g →
       min s.rect.alphaMax ((s.group g).prevAlpha + 11) ≤ s.stepAlpha g)) ∧
  (alphaReg 4096 = 0 ∧ alphaReg 4095 = 13 ∧ alphaReg 3723 = 246 ∧ alphaReg 2896 = 450 ∧ alphaReg 2048 = 600 ∧
     alphaReg 1000 = 759 ∧ alphaReg 0 = 900 ∧ ∀ c d : Int, c ≤ d → alphaReg d ≤ alphaReg c)

/-- WAKE_TIMER_EXPIRY and the command WAKE, which is answered DONE, wake a station in standby: the STANDBY cause leaves
both groups, and a group with no other cause enters STARTING. A station that is awake stays as it is. An expiry acts
when its timer is running and due, the model's reading (log 2). -/
def Obligations.StationWakes : Prop :=
  (∀ s : State, Timer.due s.fc.wakeTimer s.clock →
     ∃ t, exec .wakeTimerExpiry s = .next t ∧ s.Woken t ∧ s.onlyFcPpScRc t) ∧
  (∀ (c : CommandOperands) (s : State), s.takesCommand c 9 →
     ∃ t, exec (.wake c) s = .next t ∧ t.answered c .wake .done ∧ s.Woken t ∧ t.fs = s.fs ∧ t.fp = s.fp ∧
       t.st = s.st ∧ t.li = s.li)

/-! ### Feeders -/

/-- LOWV_TIMER_EXPIRY picks LOWV up. In CLOSED it trips a feeder that is not observed, with cause LOWV; an observed
feeder keeps its state and records it; in any state but CLOSED and CLOSING nothing follows. An expiry acts when its
timer is running and due, the model's reading (log 2). -/
def Obligations.LowvDecides : Prop :=
  ∀ (f : Feeder) (s : State), Timer.due (s.prot f).lowvTimer s.clock →
    ∃ t, exec (.lowvTimerExpiry f) s = .next t ∧ (t.prot f).lowvPicked = true ∧ (t.prot f).lowvTimer = none ∧
      ((s.prot f).copy = .closed → (s.feeder f).state = .closed → (s.feederSet f).observe = false →
        s.TripStarted t f .lowv none) ∧
      ((s.prot f).copy = .closed → (s.feeder f).state = .closed → (s.feederSet f).observe = true →
        t.feeder f = s.feeder f ∧ (∃ r, (t.prot f).record = some r ∧ r.cause = .lowv ∧ r.observed = true)) ∧
      ((s.prot f).copy = (s.feeder f).state →
        (s.feeder f).state ∈ [.opened, .tripping, .tripped, .testing, .lockout, .failed] →
        (t.prot f).record = (s.prot f).record ∧ t = { s with fp := t.fp }) ∧
      s.otherFeedersKept t f ∧ s.onlyFcFpFsPpScRc t

/-- CONTACT_DEBOUNCE_EXPIRY: the raw level is taken. No edge changes no more than that, and neither does an edge of a
feeder that is not enabled. A contact that closes in CLOSING confirms the close, one that opens in CLOSED is a direct
release, and one that closes in OPEN, TRIPPED, LOCKOUT or TESTING is a close without a command. An expiry acts when its
timer is running and due, the model's reading (log 2). -/
def Obligations.ContactDebounceTakesEdge : Prop :=
  ∀ (f : Feeder) (s : State), Timer.due (s.feeder f).contactTimer s.clock →
    ∃ t, exec (.contactDebounceExpiry f) s = .next t ∧ (t.feeder f).contact = s.pins.contacts[f] ∧
      (t.feeder f).contactTimer = none ∧
      (s.pins.contacts[f] = (s.feeder f).contact ∨ s.feederEnabled f = false →
        t.feeder f = { s.feeder f with contact := s.pins.contacts[f], contactTimer := none } ∧ s.onlyFs t) ∧
      (s.pins.contacts[f] = true → (s.feeder f).contact = false → s.feederEnabled f → s.cl.mode = .running →
        s.laneFresh (currentLane f) → (s.feeder f).state ∈ [.closing, .opened, .tripped, .lockout, .testing] →
        (t.feeder f).state = .closed ∧ (t.feeder f).closeCoil = false ∧ (t.feeder f).op = .none ∧
          (t.feeder f).role = none ∧ (t.feeder f).tripCause = none ∧ (t.feeder f).tclose = none ∧
          (t.feeder f).reclaim = some (s.clock + (s.feederSet f).treclaim * 1000) ∧
          ((s.feeder f).state = .testing → (t.feeder f).contactor = false ∧ (t.feeder f).test = none) ∧
          s.FeederFrame t f) ∧
      (s.pins.contacts[f] = false → (s.feeder f).contact = true → s.feederEnabled f → (s.feeder f).state = .closed →
        (∃ r, (t.prot f).record = some r ∧ r.cause = .direct ∧ r.observed = false ∧ r.time = s.time) ∧
        (t.feeder f).tripCause = some .direct ∧ (t.feeder f).tripCoil = (s.feeder f).tripCoil ∧
        t.fc.standby = false ∧
        ((s.feeder f).blocked = false → (s.feeder f).attempts < (s.feederSet f).nmax → s.TrippedAs t f .leader) ∧
        ((s.feeder f).blocked = true ∨ (s.feederSet f).nmax ≤ (s.feeder f).attempts → t.LockedOut f)) ∧
      s.otherFeedersKept t f ∧ s.onlyFcFpFsPpScRc t

/-- A trip is complete when the contact reads open and the current is out: the trip coil is released and the feeder
enters its after-state. It is judged at a debounced edge of the contact, at a sample of the feeder's current lane, when
that lane falls silent, and at TOPEN_EXPIRY; until then the feeder stays in TRIPPING. At TOPEN_EXPIRY with the breaker
still closed or its current flowing the feeder is FAILED: the trip coil is kept as it was, the last-trip record is at
BF, BREAKER FAILURE is on both groups and an intertrip goes toward the far end. An expiry acts when its timer is
running and due, the model's reading (log 2). -/
def Obligations.TripsEnd : Prop :=
  (∀ (f : Feeder) (s : State), Timer.due (s.feeder f).topen s.clock → (s.feeder f).state = .tripping →
     s.tripComplete f = true →
     ∃ t, exec (.topenExpiry f) s = .next t ∧ (t.feeder f).tripCoil = false ∧ (t.feeder f).topen = none ∧
       (t.feeder f).op = .none ∧
       ((s.feeder f).after = some .lockout → t.LockedOut f) ∧
       ((s.feeder f).after = some .opened → t.Opened f (s.feeder f).attempts) ∧
       (∀ role, (s.feeder f).after = some .tripped → (s.feeder f).role = some role → (s.feeder f).blocked = false →
         s.TrippedAs t f role) ∧
       ((s.feeder f).after = some .tripped → (s.feeder f).blocked = true → t.LockedOut f) ∧
       (t.feeder f).contact = (s.feeder f).contact ∧ (t.feeder f).holds = (s.feeder f).holds ∧
       (t.feeder f).blocked = (s.feeder f).blocked ∧ s.FeederFrame t f) ∧
  (∀ (f : Feeder) (s : State), Timer.due (s.feeder f).contactTimer s.clock → (s.feeder f).state = .tripping →
     s.feederEnabled f = true → s.pins.contacts[f] ≠ (s.feeder f).contact →
     ∃ t, exec (.contactDebounceExpiry f) s = .next t ∧
       (s.pins.contacts[f] = false → s.currentOut f = true → s.TripCompleted t f) ∧
       (s.pins.contacts[f] = true ∨ s.currentOut f = false →
         t.feeder f = { s.feeder f with contact := s.pins.contacts[f], contactTimer := none }) ∧
       s.FeederFrame t f) ∧
  (∀ (f : Feeder) (raw : Word16) (s : State), (s.feeder f).state = .tripping → (s.prot f).copy = .tripping →
     s.laneFresh (currentLane f) = true →
     (raw ≠ 32768 →
       let v := s.scaled (currentLane f) raw
       ∃ t, exec (.sampleArrival (currentLane f) raw) s = .next t ∧
         ((s.feeder f).contact = false → max v (-v) < (s.feederSet f).ioff → s.TripCompleted t f) ∧
         ((s.feeder f).contact = true ∨ (s.feederSet f).ioff ≤ max v (-v) → t.feeder f = s.feeder f) ∧
         s.otherFeedersKept t f) ∧
     (Timer.due (s.lane (currentLane f)).silence s.clock →
       ∃ t, exec (.silenceTimerExpiry (currentLane f)) s = .next t ∧
         ((s.feeder f).contact = false → s.TripCompleted t f) ∧
         ((s.feeder f).contact = true → (t.feeder f).state = .tripping ∧ (t.feeder f).tripCoil = (s.feeder f).tripCoil) ∧
         s.otherFeedersKept t f)) ∧
  (∀ (f : Feeder) (s : State), Timer.due (s.feeder f).topen s.clock → (s.feeder f).state = .tripping →
     s.tripComplete f = false →
     ∃ t, exec (.topenExpiry f) s = .next t ∧
       t.feeder f = { s.feeder f with state := .failed, topen := none, after := none, role := none } ∧
       (t.prot f).copy = .failed ∧
       (∃ r, (t.prot f).record = some r ∧ r.cause = .bf ∧ r.observed = false ∧ r.time = s.time) ∧
       (∀ g, (s.group g).state ≠ .off → (t.group g).causes.breakerFailure) ∧
       (s.FiringOk → ∀ g, (t.group g).state.fires = false) ∧
       ((s.feederSet f).farStation ≠ 0 → (t.sender f).state = .sending ∧ (t.sender f).cause = some .bf) ∧
       s.otherFeedersKept t f ∧ s.onlyFcFpFsPpScRc t)

/-- TCLOSE_EXPIRY in CLOSING fails the close: the close coil is released; a manual close leaves the feeder OPEN, any
other puts it in LOCKOUT when its attempts are used up and in TRIPPED as leader when they are not. An expiry acts when
its timer is running and due, the model's reading (log 2). -/
def Obligations.CloseFails : Prop :=
  ∀ (f : Feeder) (s : State), Timer.due (s.feeder f).tclose s.clock → (s.feeder f).state = .closing →
    ∃ t, exec (.tcloseExpiry f) s = .next t ∧ (t.feeder f).closeCoil = false ∧ (t.feeder f).tclose = none ∧
      (t.feeder f).op = .none ∧
      ((s.feeder f).role = some .manual → t.Opened f (s.feeder f).attempts) ∧
      ((s.feeder f).role ≠ some .manual → (s.feederSet f).nmax ≤ (s.feeder f).attempts → t.LockedOut f) ∧
      ((s.feeder f).role ≠ some .manual → (s.feeder f).attempts < (s.feederSet f).nmax →
        (s.feeder f).blocked = false → s.TrippedAs t f .leader) ∧
      ((s.feeder f).role ≠ some .manual → (s.feeder f).blocked = true → t.LockedOut f) ∧ s.FeederFrame t f

/-- DEAD_TIME_EXPIRY: with the attempts used up the feeder enters LOCKOUT; otherwise, with no notice of a
lower-numbered station and no lane lost, it begins its line test as leader, in NOTICE for 60 ms. LIVE_TIMER_EXPIRY: a
follower whose far feeder is shown CLOSED closes onto the live line; one whose far feeder is not shown so only keeps
the elapsed timer. An expiry acts when its timer is running and due, the model's reading (log 2). -/
def Obligations.TimersThatReclose : Prop :=
  (∀ (f : Feeder) (s : State), Timer.due (s.feeder f).dead s.clock →
     ∃ t, exec (.deadTimeExpiry f) s = .next t ∧
       ((s.feederSet f).nmax ≤ (s.feeder f).attempts → t.LockedOut f) ∧
       ((s.feeder f).attempts < (s.feederSet f).nmax → s.lowerNotice f = false → (s.feeder f).holds.lane = false →
         t.feeder f =
           { s.feeder f with
             state := .testing, role := some .leader, dead := none, follow := none, live := .stopped,
             test := some { stage := .notice, timer := s.clock + 60000,
                            startSent := (s.feederSet f).farStation != 0, agreement := none } }) ∧
       s.FeederFrame t f) ∧
  (∀ (f : Feeder) (d : Nat) (s : State), (s.feeder f).live = .running d → d ≤ s.clock →
     (s.feeder f).state = .tripped → (s.feeder f).role = some .follower →
     ∃ t, exec (.liveTimerExpiry f) s = .next t ∧
       (s.liveCloseAllowed f = false ∨ (s.feeder f).holds.interlock = true ∨ (s.feeder f).holds.lane = true →
         t.feeder f = { s.feeder f with live := .elapsed } ∧ s.onlyFs t) ∧
       (s.liveCloseAllowed f = true → (s.feeder f).holds.interlock = false → (s.feeder f).holds.lane = false →
         (s.feeder f).blocked = false → (s.feeder f).attempts < (s.feederSet f).nmax → s.closeHeld f = false →
         s.laneFresh (currentLane f) →
         s.CloseDriven t f ∧ (t.feeder f).attempts = (s.feeder f).attempts + 1) ∧
       s.otherFeedersKept t f ∧ s.onlyFcFpFsPpScRc t)

/-- NOTICE_STAGE_EXPIRY, the precheck: a dead line is tested through the contactor for 50 ms; a live one is closed onto
when the section allows it and the far feeder is shown CLOSED; and it fails the test as UNSAFE when it is not. An
expiry acts when its timer is running and due, the model's reading (log 2). -/
def Obligations.Precheck : Prop :=
  ∀ (f : Feeder) (r : TestRec) (s : State), (s.feeder f).test = some r → r.stage = .notice → r.timer ≤ s.clock →
    ∃ t, exec (.noticeStageExpiry f) s = .next t ∧
      (s.vl f ≤ (s.feederSet f).vlive →
        t.feeder f =
            { s.feeder f with
              contactor := true, op := .testContactor,
              test := some { r with stage := .contactor, timer := s.clock + 50000 } } ∧
          s.onlyFs t) ∧
      ((s.feederSet f).vlive < s.vl f → s.liveCloseAllowed f → (s.feeder f).role = some .manual →
        s.closeHeld f = false → s.laneFresh (currentLane f) →
        s.CloseDriven t f ∧ (t.feeder f).test = none ∧ (t.feeder f).attempts = (s.feeder f).attempts) ∧
      ((s.feederSet f).vlive < s.vl f → s.liveCloseAllowed f → (s.feeder f).role = some .leader →
        (s.feeder f).blocked = false → (s.feeder f).attempts < (s.feederSet f).nmax →
        s.closeHeld f = false → s.laneFresh (currentLane f) →
        s.CloseDriven t f ∧ (t.feeder f).test = none ∧ (t.feeder f).attempts = (s.feeder f).attempts + 1) ∧
      ((s.feederSet f).vlive < s.vl f → s.liveCloseAllowed f = false → (s.feeder f).role = some .manual →
        (s.feeder f).state = .testing → t.Opened f (s.feeder f).attempts ∧ (t.feeder f).test = none) ∧
      ((s.feederSet f).vlive < s.vl f → s.liveCloseAllowed f = false → (s.feeder f).role = some .leader →
        (s.feeder f).attempts + 1 < (s.feederSet f).nmax → (s.feeder f).blocked = false →
        s.TrippedAs t f .leader ∧ (t.feeder f).attempts = (s.feeder f).attempts + 1 ∧ (t.feeder f).test = none) ∧
      s.otherFeedersKept t f ∧ s.onlyFcFpFsPpScRc t

/-- SECOND_HALF_EXPIRY ends the window and the test. With agreement kept the leader closes, counting the attempt;
without it the test has failed, its attempt is counted, and the feeder is TRIPPED again or in LOCKOUT. A manual test
counts nothing: with agreement kept the feeder closes, or is OPEN with CLOSE FAIL where the close is held off, and
without it the feeder is OPEN and CLOSE REFUSED is raised with VL as detail. An expiry acts when its timer is running
and due, the model's reading (log 2). -/
def Obligations.WindowEnds : Prop :=
  (∀ (f : Feeder) (r : TestRec) (s : State), (s.feeder f).test = some r → r.stage = .secondHalf →
     r.timer ≤ s.clock → (s.feeder f).role = some .leader → (s.feeder f).blocked = false →
     ∃ t, exec (.secondHalfExpiry f) s = .next t ∧ (t.feeder f).test = none ∧ (t.feeder f).contactor = false ∧
       (r.agreement = some true → (s.feeder f).attempts < (s.feederSet f).nmax → s.closeHeld f = false →
         s.laneFresh (currentLane f) →
         s.CloseDriven t f ∧ (t.feeder f).attempts = (s.feeder f).attempts + 1) ∧
       (r.agreement ≠ some true → (s.feeder f).attempts + 1 < (s.feederSet f).nmax →
         s.TrippedAs t f .leader ∧ (t.feeder f).attempts = (s.feeder f).attempts + 1) ∧
       (r.agreement ≠ some true → (s.feeder f).attempts + 1 = (s.feederSet f).nmax →
         t.LockedOut f ∧ (t.feeder f).attempts = (s.feeder f).attempts + 1) ∧
       s.otherFeedersKept t f ∧ s.onlyFcFpFsPpScRc t) ∧
  (∀ (f : Feeder) (r : TestRec) (s : State), (s.feeder f).test = some r → r.stage = .secondHalf →
     r.timer ≤ s.clock → (s.feeder f).role = some .manual → (s.feeder f).state = .testing →
     ∃ t, exec (.secondHalfExpiry f) s = .next t ∧ (t.feeder f).test = none ∧ (t.feeder f).contactor = false ∧
       (t.feeder f).attempts = (s.feeder f).attempts ∧
       (r.agreement = some true → s.closeHeld f = false → s.laneFresh (currentLane f) → s.CloseDriven t f ∧
         (t.feeder f).role = some .manual) ∧
       (r.agreement = some true → s.closeHeld f = true →
         t.Opened f (s.feeder f).attempts ∧ s.alarmed t .closeFail (.feeder f) 2) ∧
       (r.agreement ≠ some true →
         t.Opened f (s.feeder f).attempts ∧ s.alarmed t .closeRefused (.feeder f) (s.vl f)) ∧
       s.otherFeedersKept t f ∧ s.onlyFcFpFsPpScRc t)

/-- The feeder timers that change the record of their feeder alone. RECLAIM_EXPIRY in CLOSED returns the attempt count
to 0. CONTACTOR_STAGE_EXPIRY and FIRST_HALF_EXPIRY begin the two halves of Ttest, the second with its agreement at yes.
FOLLOW_TIMER_EXPIRY makes the follower a leader. PEER_NOTICE_EXPIRY removes the peer's notice and with it the hold
reason PEER TESTING. An expiry acts when its timer is running and due, the model's reading (log 2). -/
def Obligations.FeederTimersOfOneRecord : Prop :=
  (∀ (f : Feeder) (s : State), Timer.due (s.feeder f).reclaim s.clock → (s.feeder f).state = .closed →
     ∃ t, exec (.reclaimExpiry f) s = .next t ∧ t.feeder f = { s.feeder f with attempts := 0, reclaim := none } ∧
       (∀ f', f' ≠ f → t.feeder f' = s.feeder f') ∧ t = { s with fs := t.fs }) ∧
  (∀ (f : Feeder) (r : TestRec) (s : State), (s.feeder f).test = some r → r.timer ≤ s.clock →
     let ttest := (s.feederSet f).ttest
     (r.stage = .contactor →
       ∃ t, exec (.contactorStageExpiry f) s = .next t ∧
         t.feeder f =
           { s.feeder f with test := some { r with stage := .firstHalf, timer := s.clock + ttest / 2 * 1000 } } ∧
         (∀ f', f' ≠ f → t.feeder f' = s.feeder f') ∧ t = { s with fs := t.fs }) ∧
     (r.stage = .firstHalf →
       ∃ t, exec (.firstHalfExpiry f) s = .next t ∧
         t.feeder f =
           { s.feeder f with
             test :=
               some { r with
                 stage := .secondHalf, timer := s.clock + (ttest - ttest / 2) * 1000, agreement := some true } } ∧
         (∀ f', f' ≠ f → t.feeder f' = s.feeder f') ∧ t = { s with fs := t.fs })) ∧
  (∀ (f : Feeder) (s : State),
     (Timer.due (s.feeder f).follow s.clock → (s.feeder f).state = .tripped → (s.feeder f).dead = none →
       ∃ t, exec (.followTimerExpiry f) s = .next t ∧
         t.feeder f =
           { s.feeder f with
             follow := none, live := .stopped, role := some .leader,
             dead := if (s.feeder f).holds.isEmpty then some (s.clock + (s.feederSet f).tdead * 1000) else none } ∧
         (∀ f', f' ≠ f → t.feeder f' = s.feeder f') ∧ t = { s with fs := t.fs }) ∧
     (∀ n, (s.feeder f).notice = some n → n.timer ≤ s.clock →
       ∃ t, exec (.peerNoticeExpiry f) s = .next t ∧ (t.feeder f).notice = none ∧
         (t.feeder f).holds = (s.feeder f).holds.put .peerTesting false ∧
         (t.feeder f).state = (s.feeder f).state ∧ (t.feeder f).role = (s.feeder f).role ∧
         (∀ f', f' ≠ f → t.feeder f' = s.feeder f') ∧ t = { s with fs := t.fs }))

/-- No command takes the drive off a trip coil before the contact reads open and the feeder's current is out, but those
that can reset the part. -/
def Obligations.TripCoilHeldUntilOpen : Prop :=
  ∀ (c : Instr) (s t : State) (f : Feeder), exec c s = .next t → (s.feeder f).tripCoil = true →
    (t.feeder f).tripCoil = false → mayReset c = false →
    (t.feeder f).contact = false ∧ t.currentOut f

/-- Whenever a command drives a close coil, the feeder is CLOSING and nothing forbids the close: no INTERLOCK, no
active DOOR input, no element picked up. -/
def Obligations.CloseCoilDrivenOnlyWhenAllowed : Prop :=
  ∀ (c : Instr) (s t : State) (f : Feeder), s.Ok → exec c s = .next t → (s.feeder f).closeCoil = false →
    (t.feeder f).closeCoil = true →
    (t.feeder f).state = .closing ∧ (t.feeder f).holds.interlock = false ∧ t.doorActive = false ∧
      (t.prot f).pickedUp = false

/-! ### Ports -/

/-- GAP_TIMER_EXPIRY in GAP puts the frame in hand onto the line, with the time it has waited added to the age of an
INTERTRIP, at 4 us a byte. FRAME_SENT in SEND: the frame leaves its queue with the attempt count at 0, and the next
frame goes in hand, urgent before routine, or the port is IDLE. An expiry acts when its timer is running and due, the
model's reading (log 2). That the segment is idle after the part's own frame is log 19. -/
def Obligations.FrameIsSent : Prop :=
  (∀ (p : Port) (q : QFrame) (s : State), Timer.due (s.port p).gapTimer s.clock → (s.port p).tx = .gap →
     (s.port p).inHand = some q →
     ∃ t, exec (.gapTimerExpiry p) s = .next t ∧
       t.port p =
         { s.port p with
           tx := .send, gapTimer := none, line := (q.aged s.time).bytes,
           sendEnd := some (s.clock + 4 * (q.aged s.time).bytes.length) } ∧
       (∀ b, q.frame.payload = .intertrip b →
         (q.aged s.time).payload =
           .intertrip { b with age := BitVec.ofNat 16 (min 65535 (b.age.toNat + elapsed q.queuedAt s.time)) }) ∧
       ((∀ b, q.frame.payload ≠ .intertrip b) → q.aged s.time = q.frame) ∧
       (q.aged s.time).header = q.frame.header ∧ t.port (other p) = s.port (other p) ∧
       t = { s with pp := { s.pp with ports := t.pp.ports } }) ∧
  (∀ (p : Port) (k : FrameClass) (s : State), Timer.due (s.port p).sendEnd s.clock → (s.port p).tx = .send →
     (s.port p).hand = some k → s.cl.restartTimer = none →
     ∃ t, exec (.frameSent p) s = .next t ∧
       (t.port p).urgent = (if k = .urgent then (s.port p).urgent.tail else (s.port p).urgent) ∧
       (t.port p).routine = (if k = .routine then (s.port p).routine.tail else (s.port p).routine) ∧
       (t.port p).attempts = 0 ∧ (t.port p).line = [] ∧ (t.port p).sendEnd = none ∧
       ((t.port p).urgent ≠ [] →
         (t.port p).hand = some .urgent ∧ (t.port p).tx = .gap ∧ (t.port p).gapTimer = some (s.clock + 40)) ∧
       ((t.port p).urgent = [] → (t.port p).routine ≠ [] →
         (t.port p).hand = some .routine ∧ (t.port p).tx = .gap) ∧
       ((t.port p).urgent = [] → (t.port p).routine = [] → (t.port p).hand = none ∧ (t.port p).tx = .idle) ∧
       t.port (other p) = s.port (other p) ∧ t.pins = { s.pins with busy := s.pins.busy.set p false } ∧
       t = { s with pins := t.pins, pp := { s.pp with ports := t.pp.ports } })

/-- COLLISION in SEND with fewer than 16 attempts: the backoff register advances once, the attempt count rises, and the
frame waits for the register modulo 2^min(attempts, 5) slots of 20 us, a wait of 0 ending at once; but a routine frame
with an urgent one waiting gives up the hand and its attempts. A 16th collision drops the frame and counts it. An
urgent frame that is queued (here the next of an intertrip, at REPEAT_TIMER_EXPIRY) takes the hand from a routine frame
in DEFER, GAP or BACKOFF, and goes in hand on an IDLE port; in SEND it waits. That the segment is busy after a
collision and that the port passes over its rest is log 19; that the register advances where an urgent frame waits is
log 18; that no STATUS is originated on a change while the STATUS timer has not been started, on which the clause of
the whole routine queue rests, is log 7. An expiry acts when its timer is running and due, the model's reading (log 2).
-/
def Obligations.CollisionBacksOff : Prop :=
  (∀ (p : Port) (k : FrameClass) (s : State), (s.port p).tx = .send → (s.port p).hand = some k →
     s.cl.restartTimer = none →
     ∃ t, exec (.collision p) s = .next t ∧ t.pins = { s.pins with busy := s.pins.busy.set p true } ∧
       ((s.port p).attempts + 1 < 16 →
         (t.port p).urgent = (s.port p).urgent ∧ (t.port p).routine = (s.port p).routine ∧
         (t.port p).backoffReg = advanceBackoff (s.port p).backoffReg ∧ (t.port p).deaf = true ∧
         (k = .urgent ∨ (s.port p).urgent = [] →
           (t.port p).attempts = (s.port p).attempts + 1 ∧ (t.port p).hand = some k ∧
           let wait := (t.port p).backoffReg.toNat % 2 ^ min ((s.port p).attempts + 1) 5 * 20
           (wait = 0 → (t.port p).tx = .defer) ∧
             (wait ≠ 0 → (t.port p).tx = .backoff ∧ (t.port p).backoffTimer = some (s.clock + wait))) ∧
         (k = .routine → (s.port p).urgent ≠ [] →
           (t.port p).attempts = 0 ∧ (t.port p).hand = some .urgent ∧ (t.port p).tx = .defer ∧
             (t.port p).backoffTimer = none) ∧
         t.rc = s.rc) ∧
       (16 ≤ (s.port p).attempts + 1 → (s.port p).drops < 32767 →
         (s.port p).drops + 1 ≤ (t.port p).drops ∧ (t.port p).backoffReg = (s.port p).backoffReg ∧
         (t.port p).deaf = true ∧ (t.port p).attempts = 0 ∧
         (t.port p).urgent = (if k = .urgent then (s.port p).urgent.tail else (s.port p).urgent) ∧
         (t.port p).routine.filter (fun q => !q.ownStatus) =
           (if k = .routine then (s.port p).routine.tail else (s.port p).routine).filter (fun q => !q.ownStatus) ∧
         (s.pp.statusTimer = none →
           (t.port p).routine = if k = .routine then (s.port p).routine.tail else (s.port p).routine) ∧
         (t.port p).hand =
           (if (t.port p).urgent ≠ [] then some .urgent else if (t.port p).routine ≠ [] then some .routine else none) ∧
         (t.port p).tx = (if (t.port p).hand = none then .idle else .defer) ∧
         s.alarmed t .pilotCongestion (.port p) (t.port p).drops) ∧
       t.clock = s.clock ∧ t.li = s.li ∧ t.st = s.st ∧ t.fc = s.fc ∧ t.fp = s.fp ∧ t.fs = s.fs ∧ t.sc = s.sc ∧
       t.im = s.im ∧ t.cl = s.cl ∧ t.pending = s.pending) ∧
  (∀ (f : Feeder) (p : Port) (s : State), Timer.due (s.sender f).repeatTimer s.clock → (s.sender f).state = .sending →
     s.directPort f = some p → (s.port p).urgent.length < 8 →
     ∃ t q, exec (.repeatTimerExpiry f) s = .next t ∧ (t.port p).urgent.getLast? = some q ∧
       let r := { s.port p with urgent := (s.port p).urgent ++ [q] }
       (r.hand = some .urgent ∨ r.tx = .send → r.tx ≠ .idle → t.port p = r) ∧
       (r.hand = some .routine →
         (r.tx = .defer → t.port p = { r with hand := some .urgent, attempts := 0 }) ∧
         (r.tx = .gap → t.port p = { r with hand := some .urgent, attempts := 0, gapTimer := some (s.clock + 40) }) ∧
         (r.tx = .backoff → (t.port p).hand = some .urgent ∧ (t.port p).attempts = 0)) ∧
       ((r.tx = .backoff ∧ r.hand = some .routine) ∨ r.tx = .idle →
         (t.port p).hand = some .urgent ∧ (t.port p).urgent = r.urgent ∧ (t.port p).routine = r.routine ∧
           (t.port p).backoffTimer = none ∧
           (s.pins.busy[p] = true → (t.port p).tx = .defer ∧ (t.port p).gapTimer = none) ∧
           (s.pins.busy[p] = false → (t.port p).tx = .gap ∧ (t.port p).gapTimer = some (s.clock + 40))))

/-- BACKOFF_TIMER_EXPIRY in BACKOFF: the frame in hand takes the medium afresh, in GAP on an idle segment and in DEFER
on a busy one. QUIET_TIMER_EXPIRY: an ACTIVE port that has heard no good frame for 2 s is QUIET and raises PORT QUIET.
STATUS_TIMER_EXPIRY: the timer runs again for 100 ms and one STATUS is originated, with the station's records as they
stand and one sequence number, on every port that is not OFF: SEGMENT scope without a listener, NETWORK with one; it
takes the place of a STATUS that waits there, keeping that one's NETWORK scope and reply-to. LISTENER_EXPIRY removes
its station from the listener list. An expiry acts when its timer is running and due, the model's reading (log 2). That
a periodic timer runs again from the clock at which its expiry is taken is log 46. That the older of two own STATUS
that wait is replaced is log 66. -/
def Obligations.PortTimersExpire : Prop :=
  (∀ (p : Port) (s : State),
     (∀ k, Timer.due (s.port p).backoffTimer s.clock → (s.port p).tx = .backoff → (s.port p).hand = some k →
       ∃ t, exec (.backoffTimerExpiry p) s = .next t ∧ (t.port p).backoffTimer = none ∧ (t.port p).hand = some k ∧
         (s.pins.busy[p] = true → (t.port p).tx = .defer ∧ (t.port p).gapTimer = none) ∧
         (s.pins.busy[p] = false → (t.port p).tx = .gap ∧ (t.port p).gapTimer = some (s.clock + s.gap k)) ∧
         (t.port p).attempts = (s.port p).attempts ∧ t.port (other p) = s.port (other p) ∧
         t = { s with pp := { s.pp with ports := t.pp.ports } }) ∧
     (Timer.due (s.port p).quietTimer s.clock →
       ∃ t, exec (.quietTimerExpiry p) s = .next t ∧ (t.port p).state = .quiet ∧ (t.port p).quietTimer = none ∧
         (t.port (other p)).state = (s.port (other p)).state ∧ s.alarmed t .portQuiet (.port p) 0 ∧ s.onlyPpRc t)) ∧
  (∀ s : State,
     (Timer.due s.pp.statusTimer s.clock →
       (∀ p, (s.port p).routine.length < 16 ∨ ∃ q ∈ (s.port p).waitingRoutine, q.ownStatus = true) →
       ∃ t, exec .statusTimerExpiry s = .next t ∧ t.pp.statusTimer = some (s.clock + 100000) ∧
         t.pp.seq = s.pp.seq + 1 ∧
         (∀ p, (s.port p).state = .off → t.port p = s.port p) ∧
         (∀ p, (s.port p).state ≠ .off → (∀ q ∈ (s.port p).waitingRoutine, q.ownStatus = false) →
           ∃ q, (t.port p).routine = (s.port p).routine ++ [q] ∧ q.own = true ∧
             q.frame.payload = .status (s.statusBody none) ∧ q.frame.header.seq = s.pp.seq ∧
             q.frame.header.origin = s.cl.station ∧ q.frame.header.hops = 7 ∧
             q.frame.header.scope =
               (if s.cl.mode = .configFault ∨ s.pp.listeners = [] then .segment else .network)) ∧
         (∀ (p : Port) (before after : List QFrame) (old : QFrame) (b : StatusBody), (s.port p).state ≠ .off →
           (s.port p).waitingRoutine = before ++ old :: after → (∀ q ∈ before, q.ownStatus = false) →
           old.own = true → old.frame.payload = .status b →
           let header : Header :=
             { scope :=
                 if old.frame.header.scope = .network ∨ (s.cl.mode ≠ .configFault ∧ s.pp.listeners ≠ []) then .network
                 else .segment,
               loopMark := false, hops := 7, origin := s.cl.station, seq := s.pp.seq }
           let new : QFrame :=
             { frame := { header, payload := .status { s.statusBody none with replyTo := b.replyTo } }, own := true,
               queuedAt := s.time, restart := old.restart }
           (t.port p).waitingRoutine = before ++ new :: after ∧
             t.port p = { s.port p with routine := (t.port p).routine } ∧
             (t.port p).routine.length = (s.port p).routine.length ∧
             ((s.port p).tx = .send → (s.port p).hand = some .routine →
               (t.port p).routine.head? = (s.port p).routine.head?)) ∧
         t = { s with pp := t.pp }) ∧
     (∀ (l : Listener), l ∈ s.pp.listeners → l.timer ≤ s.clock → (s.pp.listeners.map (·.station)).Nodup →
       ∃ t, exec (.listenerExpiry l.station) s = .next t ∧ l.station ∉ t.pp.listeners.map (·.station) ∧
         (∀ m ∈ s.pp.listeners, m.station ≠ l.station → m ∈ t.pp.listeners) ∧
         t = { s with pp := { s.pp with listeners := t.pp.listeners } }))

/-- A STATUS body shows the records as they stand: VB, load index, group and tracker states, one record for each
enabled feeder, the four flags, the pending count and the most urgent priority, the presented alarm, the input change
flags, the last command result and the reply-to. In CONFIG FAULT VB and the load index are 0, both groups show BLOCKED,
the tracker OFF, the standby and saturation flags are clear, and all four feeders stand with section id 0 and the live
flag clear. The codes of states, results, alarm kinds and objects are those of section 7.8. -/
def Obligations.StatusShowsRecords : Prop :=
  (∀ (reply : Option Byte) (s : State),
     let b := s.statusBody reply
     let fault := decide (s.cl.mode = .configFault)
     let waiting := s.rc.table.filter fun e => e.state != .accepted
     (fault = false →
       b.vb = BitVec.ofInt 16 s.vb ∧ b.load = BitVec.ofNat 8 s.sc.load ∧ b.g1 = (s.group 0).state.code ∧
       b.g2 = (s.group 1).state.code ∧ b.tracker = s.st.tracker.code ∧
       b.feeders = (List.finRange 4).filterMap fun f =>
         if s.feederEnabled f then
           some
             { feeder := BitVec.ofNat 8 (f.val + 1), sectionId := (s.feederSet f).sectionId,
               state := (s.feeder f).state.code,
               live := if s.laneFresh (lineLane f) = true ∧ (s.feederSet f).vlive < s.vl f then 1 else 0 }
         else none) ∧
     (fault = true →
       b.vb = 0 ∧ b.load = 0 ∧ b.g1 = 1 ∧ b.g2 = 1 ∧ b.tracker = 0 ∧
       b.feeders = (List.finRange 4).map fun f =>
         { feeder := BitVec.ofNat 8 (f.val + 1), sectionId := 0, state := (s.feeder f).state.code, live := 0 }) ∧
     b.flags.getLsbD 0 = (s.fc.standby && !fault) ∧
     b.flags.getLsbD 1 = (((s.group 0).limited || (s.group 1).limited) && !fault) ∧
     b.flags.getLsbD 2 = s.rc.overflow ∧ b.flags.getLsbD 3 = fault ∧ b.flags.toNat < 16 ∧
     b.pending = BitVec.ofNat 8 waiting.length ∧ (waiting = [] → b.mostUrgent = 16) ∧
     (∀ e ∈ waiting, e.priority ≤ 15 → (∀ x ∈ waiting, e.priority ≤ x.priority) →
       b.mostUrgent = BitVec.ofNat 8 e.priority) ∧
     (∀ i : Input, b.inputFlags.getLsbD i.val = (s.input i).changed) ∧ b.inputFlags.toNat < 4096 ∧ b.reserved = 0 ∧
     (∀ e, s.rc.presented = some e →
       b.presented = some
         { tag := e.tag.getD 0, kind := e.kind.code, objectClass := e.object.classCode,
           objectIndex := e.object.indexCode, priority := BitVec.ofNat 8 e.priority }) ∧
     (s.rc.presented = none → b.presented = none) ∧
     b.result = (s.rc.lastResult.map fun r => { gateway := r.gateway, command := r.code, result := r.result.code }) ∧
     b.replyTo = reply) ∧
  [GroupState.off, .blocked, .starting, .running].map GroupState.code = [0, 1, 2, 3] ∧
  [Tracker.off, .seek, .locked, .holdover, .fault].map Tracker.code = [0, 1, 2, 3, 4] ∧
  [FeederState.opened, .closing, .closed, .tripping, .tripped, .testing, .lockout, .failed].map FeederState.code =
    [0, 1, 2, 3, 4, 5, 6, 7] ∧
  [CommandResult.done, .refusedState, .refusedInterlock, .badArgument, .staleTag, .notTaken].map CommandResult.code =
    [1, 2, 3, 4, 5, 6] ∧
  [AlarmKind.breakerFailure, .groupFault, .lockout, .feederTrip, .intertripUnconfirmed, .timebaseFault, .laneStale,
      .closeFail, .uncommandedClose, .lineTestFail, .wouldTrip, .closeRefused, .peerLost, .mapMismatch, .timebaseState,
      .pilotCongestion, .portError, .portQuiet, .inputChange, .configClamped, .commandRejected, .standby].map
      AlarmKind.code =
    ((List.range 22).map fun n => BitVec.ofNat 8 (n + 1)) ∧
  AlarmObject.station.classCode = 0 ∧ AlarmObject.station.indexCode = 0 ∧
  (∀ f : Feeder, (AlarmObject.feeder f).classCode = 1 ∧ (AlarmObject.feeder f).indexCode = BitVec.ofNat 8 (f.val + 1)) ∧
  (∀ g : Group, (AlarmObject.group g).classCode = 2 ∧ (AlarmObject.group g).indexCode = BitVec.ofNat 8 (g.val + 1)) ∧
  (∀ l : Lane, (AlarmObject.lane l).classCode = 3 ∧ (AlarmObject.lane l).indexCode = BitVec.ofNat 8 l.val) ∧
  (∀ i : Input, (AlarmObject.input i).classCode = 4 ∧ (AlarmObject.input i).indexCode = BitVec.ofNat 8 i.val) ∧
  (∀ p : Port, (AlarmObject.port p).classCode = 5 ∧ (AlarmObject.port p).indexCode = BitVec.ofNat 8 p.val) ∧
  (∀ n : Byte, (AlarmObject.peer n).classCode = 6 ∧ (AlarmObject.peer n).indexCode = n)

/-! ### Receptions -/

/-- A reception is read as a frame exactly when the frame passes the frame check and the bytes are, one for one, those
it is sent as: every frame is read back whole, and no other bytes are read as it. What the frame check asks beside the
listed points is log 8. -/
def Obligations.FrameRoundTrip : Prop :=
  ∀ (bytes : List Byte) (f : Frame), parseReception bytes = .good f ↔ f.wellFormed ∧ f.bytes = bytes

/-- A frame with any one byte changed on the line, whether in its header, its length, its body or its CRC, is bad. What
the frame check asks beside the listed points is log 8. -/
def Obligations.OneBadByteIsCaught : Prop :=
  ∀ (f : Frame) (i : Nat) (b : Byte), f.wellFormed → i < f.bytes.length → f.bytes[i]? ≠ some b →
    parseReception (f.bytes.set i b) = .bad

/-- FRAGMENT: a reception of fewer than 7 bytes changes nothing. BAD_RECEPTION adds 1 to the port's error count and the
station time to its error window; the eighth within a second empties the window and raises PORT ERROR. A frame that
passes the frame check makes its port ACTIVE and restarts its quiet timer at 2 s; a NETWORK frame whose pair is in the
seen list, or a frame of this station's own, does nothing more. The bytes of these rows are read by the model (log 9),
and when a port hears a transmission is log 60. -/
def Obligations.ReceptionsOfAPort : Prop :=
  (∀ (p : Port) (bytes : List Byte) (s : State),
     (bytes.length < 7 → exec (.fragment p bytes) s = .next s) ∧
     (parseReception bytes = .bad → (s.port p).receives →
       let recent := (s.port p).errorWindow.filter fun t => decide (elapsed t s.time ≤ 1000)
       ∃ t, exec (.badReception p bytes) s = .next t ∧
         (t.port p).errors = min 32767 ((s.port p).errors + 1) ∧ (t.port p).state = (s.port p).state ∧
         (recent.length < 7 → (t.port p).errorWindow = recent ++ [s.time] ∧ t.rc = s.rc ∧
           t = { s with pp := { s.pp with ports := t.pp.ports } } ∧ t.port (other p) = s.port (other p)) ∧
         (7 ≤ recent.length → (t.port p).errorWindow = [] ∧
           s.alarmed t .portError (.port p) (min 32767 ((s.port p).errors + 1) : Nat)) ∧
         s.onlyPpRc t)) ∧
  (∀ (p : Port) (f : Frame) (s : State), (s.port p).receives → f.wellFormed → s.cl.restartTimer = none →
     ∃ t, exec (Frame.row p f) s = .next t ∧
       ((f.header.scope = .network ∧ (f.header.origin, f.header.seq) ∈ s.pp.seen) → t = s.portHears p) ∧
       (f.header.origin = s.cl.station → (f.header.scope = .network → (f.header.origin, f.header.seq) ∉ s.pp.seen) →
         t = s.heard p f.header) ∧
       (f.payload.kind ≠ 5 →
         (t.port p).state = .active ∧ (t.port p).quietTimer = some (s.clock + 2000000)))

/-- Every frame that is taken is first handed to the block that owns its kind, a REPORT to none, and then forwarded: a
junction puts a copy of a NETWORK frame with hops left onto the other port, with one hop less, unless both the frame
and the station carry the loop mark: then a loop discard is counted there. A frame that is not to be forwarded does
nothing after the block's own part. (RESTART, after which the part may be reset, has a statement of its own.) -/
def Obligations.TakenFramesAreForwarded : Prop :=
  ∀ (p : Port) (f : Frame) (s : State), s.takesFrame p f → mayReset (Frame.row p f) = false →
    let u := (s.heard p f.header).handOn p f
    let copy : QFrame :=
      { frame :=
          { f with
            header :=
              { f.header with hops := f.header.hops - 1, loopMark := f.header.loopMark || s.settings.loopMark } },
        own := false, queuedAt := s.time, restart := false }
    ∃ t, exec (Frame.row p f) s = .next t ∧ u.SameButReports t ∧
      (s.notForwarded p f.header → t = u) ∧
      (∀ b, f.payload = .report b →
        exec (.reportReceived p f.header b) s = .next t ∧ u = s.heard p f.header) ∧
      (s.cl.settings.isSome → s.settings.junction = true → f.header.scope = .network → f.header.hops ≠ 0 →
        (s.port (other p)).state ≠ .off →
        (f.header.loopMark = true → s.settings.loopMark = true →
          t.port (other p) = { u.port (other p) with drops := min 32767 ((u.port (other p)).drops + 1) } ∧
            t.port p = u.port p ∧ t = { u with pp := { u.pp with ports := t.pp.ports } }) ∧
        (f.header.loopMark = false ∨ s.settings.loopMark = false →
          (f.payload.frameClass = .routine → (u.port (other p)).routine.length < 16 →
            (t.port (other p)).routine = (u.port (other p)).routine ++ [copy] ∧ t.port p = u.port p ∧ t.rc = u.rc) ∧
          (f.payload.frameClass = .urgent → (u.port (other p)).urgent.length < 8 →
            (t.port (other p)).urgent = (u.port (other p)).urgent ++ [copy] ∧ t.port p = u.port p ∧ t.rc = u.rc)))

/-- STATUS_RECEIVED from a station in the peer table: its entry is FRESH, with the body, the time, the way it came and
a stale timer at Tstale; an unpinned entry is all that changes, and a pinned one heard directly is no longer located.
From a station that the table does not hold it makes an unpinned FRESH entry; on a table of 16 entries the unpinned one
heard earliest leaves for it, the first of these in the table, and the other 15 stay as they were. That a record
already in REPEAT keeps a timer that is due is log 61. -/
def Obligations.StatusUpdatesPeer : Prop :=
  (∀ (p : Port) (h : Header) (b : StatusBody) (e : PeerEntry) (s : State),
     s.takesFrame p { header := h, payload := .status b } → s.cl.mode = .running → s.peer h.origin = some e →
     s.notForwarded p h →
     ∃ t e', exec (.statusReceived p h b) s = .next t ∧ t.peer h.origin = some e' ∧ e'.station = h.origin ∧
       e'.pinned = e.pinned ∧ e'.health = .fresh ∧ e'.contents = some b ∧ e'.lastHeard = some s.time ∧
       e'.reach = some (if h.hops = 7 then .direct p else .forwarded p) ∧
       e'.staleTimer = some (s.clock + s.settings.tstale * 1000) ∧ e'.removalTimer = none ∧
       (e.pinned = false → e'.locate = e.locate ∧ t = { s.heard p h with sc := { s.sc with peers := t.sc.peers } }) ∧
       (e.pinned = true → h.hops = 7 → e'.locate = .idle ∧ e'.locateTimer = none) ∧
       (e.pinned = true → h.hops ≠ 7 → e'.locate = .again) ∧
       (∀ n, n ≠ h.origin → t.peer n = s.peer n) ∧ t.sc.peers.length = s.sc.peers.length) ∧
  (∀ (p : Port) (h : Header) (b : StatusBody) (s : State),
     s.takesFrame p { header := h, payload := .status b } → s.cl.mode = .running → s.peer h.origin = none →
     s.notForwarded p h → s.CoordinatorOk →
     ∃ t e', exec (.statusReceived p h b) s = .next t ∧ t.peer h.origin = some e' ∧ e'.pinned = false ∧
       e'.health = .fresh ∧ e'.contents = some b ∧ e'.lastHeard = some s.time ∧ e'.locate = .idle ∧
       (s.sc.peers.length < 16 → t.sc.peers = s.sc.peers ++ [e']) ∧
       (s.sc.peers.length = 16 → t.sc.peers.length = 16 ∧ (∀ x ∈ s.sc.peers, x.pinned = true → x ∈ t.sc.peers) ∧
         let age (x : PeerEntry) : Nat := (x.lastHeard.map fun m => elapsed m s.time).getD 4294967296
         ∃ (before after : List PeerEntry) (x : PeerEntry),
           s.sc.peers = before ++ x :: after ∧ x.pinned = false ∧ t.sc.peers = before ++ after ++ [e'] ∧
           (∀ y ∈ before, y.pinned = false → age y < age x) ∧ (∀ y ∈ after, y.pinned = false → age y ≤ age x)) ∧
       t = { s.heard p h with sc := { s.sc with peers := t.sc.peers } })

/-- INTERTRIP_RECEIVED for this station and the section of an enabled feeder, from the far station: not older than 1000
ms it trips the feeder in CLOSED or CLOSING as follower with cause REMOTE, and in any state but those and TESTING it is
only noted; older, it is only noted. One for this station that fits no enabled feeder's map entry raises MAP MISMATCH
with its section id as detail and does nothing else; one for another station does nothing here. -/
def Obligations.IntertripTrips : Prop :=
  (∀ (p : Port) (h : Header) (b : IntertripBody) (f : Feeder) (s : State),
     s.takesFrame p { header := h, payload := .intertrip b } → s.cl.mode = .running → b.target = s.cl.station →
     s.intertripFeeder h b = some f → s.notForwarded p h →
     ∃ t, exec (.intertripReceived p h b) s = .next t ∧
       (b.age.toNat ≤ 1000 → (s.feeder f).state = .closed ∨ (s.feeder f).state = .closing →
         (s.heard p h).TripStarted t f .remote (some h.origin)) ∧
       (b.age.toNat ≤ 1000 → (s.feeder f).state = .testing → (s.feeder f).blocked = false →
         s.TrippedAs t f .follower ∧ (t.feeder f).tripCause = some .remote ∧ (t.feeder f).contactor = false ∧
           (t.feeder f).test = none) ∧
       (1000 < b.age.toNat ∨ (s.feeder f).state ∈ [.opened, .tripping, .tripped, .lockout, .failed] →
         t = { s.heard p h with fp := t.fp } ∧
           (t.prot f).record =
             (s.prot f).record.map fun r => { r with repeats := min 255 (r.repeats + 1) }) ∧
       s.otherFeedersKept t f) ∧
  (∀ (p : Port) (h : Header) (b : IntertripBody) (s : State),
     s.takesFrame p { header := h, payload := .intertrip b } → s.cl.mode = .running → s.notForwarded p h →
     ∃ t, exec (.intertripReceived p h b) s = .next t ∧
       (b.target ≠ s.cl.station → t = s.heard p h) ∧
       (b.target = s.cl.station →
         (∀ f, feederOf b.feeder = some f → s.feederEnabled f = false ∨ (s.feederSet f).sectionId ≠ b.sectionId ∨
           (s.feederSet f).farStation ≠ h.origin) →
         (s.heard p h).SameButReports t ∧ s.alarmed t .mapMismatch (.peer h.origin) b.sectionId.toNat))

/-- TEST_NOTICE_RECEIVED, START, from a lower-numbered station for the section of an enabled feeder: the notice is held
for 4 s, and the feeder holds PEER TESTING; END from that station removes both. LOCATE_RECEIVED that seeks this station
or all of them is answered by a STATUS of the same scope that names the requester, and NETWORK scope makes the
requester a listener for 12 s. -/
def Obligations.NoticesAndLocates : Prop :=
  (∀ (p : Port) (h : Header) (b : NoticeBody) (f : Feeder) (s : State),
     s.takesFrame p { header := h, payload := .testNotice b } → s.cl.mode = .running → s.notForwarded p h →
     s.feederEnabled f → (s.feederSet f).sectionId = b.sectionId →
     ∃ t, exec (.testNoticeReceived p h b) s = .next t ∧
       (b.phase = 1 → (s.feeder f).notice = none → h.origin.toNat < s.cl.station.toNat →
         (t.feeder f).notice = some { origin := h.origin, timer := s.clock + 4000000 } ∧
           (t.feeder f).holds.peerTesting = true) ∧
       (∀ d, b.phase = 2 → (s.feeder f).notice = some { origin := h.origin, timer := d } →
         (t.feeder f).notice = none ∧ (t.feeder f).holds.peerTesting = false) ∧
       (∀ f', (s.feederSet f').sectionId ≠ b.sectionId → t.feeder f' = s.feeder f')) ∧
  (∀ (p : Port) (h : Header) (b : LocateBody) (s : State),
     s.takesFrame p { header := h, payload := .locate b } → s.cl.mode = .running → s.notForwarded p h →
     (∀ p, (s.port p).routine.length < 16) →
     ∃ t, exec (.locateReceived p h b) s = .next t ∧
       (b.sought ≠ s.cl.station → b.sought ≠ 0 → t = s.heard p h) ∧
       (b.sought = s.cl.station ∨ b.sought = 0 →
         t.pp.seq = s.pp.seq + 1 ∧
         (∀ q, (s.port q).state ≠ .off → (∀ x ∈ (s.port q).routine, x.ownStatus = false) →
           ∃ x body, (t.port q).routine = (s.port q).routine ++ [x] ∧ x.frame.payload = .status body ∧
             body.replyTo = some h.origin ∧ x.frame.header.scope = h.scope) ∧
         (h.scope = .network → ∃ l ∈ t.pp.listeners, l.station = h.origin ∧ l.timer = s.clock + 12000000) ∧
         (h.scope = .segment → t.pp.listeners = s.pp.listeners)) ∧
       t = { s with pp := t.pp })

/-! ### Peers, intertrips and load sharing -/

/-- STALE_TIMER_EXPIRY: a pinned entry is STALE and is located from stage FIRST; an unpinned one is STALE and will be
removed 10 s later. REMOVAL_TIMER_EXPIRY removes its entry. LOCATE_TIMER_EXPIRY: a LOCATE for the peer goes out on both
ports, at SEGMENT scope from FIRST and at NETWORK scope from SECOND and REPEAT; a peer never heard by the end of SECOND
raises PEER LOST. An expiry acts when its timer is running and due, the model's reading (log 2). -/
def Obligations.PeerTimersExpire : Prop :=
  (∀ (n : Byte) (e : PeerEntry) (s : State), s.peer n = some e →
     (Timer.due e.staleTimer s.clock → e.pinned = true →
       ∃ t, exec (.staleTimerExpiry n) s = .next t ∧
         t.peer n =
           some { e with health := .stale, staleTimer := none, locate := .first, locateTimer := some (s.clock + 1000000) } ∧
         (∀ m, m ≠ n → t.peer m = s.peer m) ∧ t.clock = s.clock ∧ t.pins = s.pins ∧ t.li = s.li ∧ t.st = s.st ∧
         t.im = s.im ∧ t.cl = s.cl ∧ t.pending = s.pending) ∧
     (Timer.due e.staleTimer s.clock → e.pinned = false →
       ∃ t, exec (.staleTimerExpiry n) s = .next t ∧
         t.peer n = some { e with health := .stale, staleTimer := none, removalTimer := some (s.clock + 10000000) } ∧
         (∀ m, m ≠ n → t.peer m = s.peer m) ∧ t = { s with sc := { s.sc with peers := t.sc.peers } }) ∧
     (Timer.due e.removalTimer s.clock → (s.sc.peers.map (·.station)).Nodup →
       ∃ t, exec (.removalTimerExpiry n) s = .next t ∧ t.peer n = none ∧
         (∀ m, m ≠ n → t.peer m = s.peer m) ∧ t = { s with sc := { s.sc with peers := t.sc.peers } })) ∧
  (∀ (n : Byte) (e : PeerEntry) (s : State), s.peer n = some e → Timer.due e.locateTimer s.clock →
     e.locate ≠ .idle → (∀ p, (s.port p).routine.length < 16) →
     ∃ t, exec (.locateTimerExpiry n) s = .next t ∧
       (e.locate ≠ .second ∨ e.lastHeard.isSome → t.pp.seq = s.pp.seq + 1) ∧
       (∀ p, (s.port p).state ≠ .off → ∃ q ∈ (t.port p).routine, q.own = true ∧
         q.frame.payload = .locate { sought := n } ∧ q.frame.header.seq = s.pp.seq ∧
         q.frame.header.scope = (if e.locate = .first then .segment else .network)) ∧
       (e.locate = .first →
         t.peer n = some { e with locate := .second, locateTimer := some (s.clock + 1000000) } ∧ t.rc = s.rc) ∧
       (e.locate = .second ∨ e.locate = .again →
         t.peer n = some { e with locate := .again, locateTimer := some (s.clock + 5000000) }) ∧
       (e.locate = .second → e.lastHeard = none → s.alarmed t .peerLost (.peer n) 2) ∧
       (∀ m, m ≠ n → t.peer m = s.peer m) ∧ t.sc = { s.sc with peers := t.sc.peers } ∧ s.onlyPpScRc t)

/-- REPEAT_TIMER_EXPIRY in SENDING sends the frame of the next index and counts it; after the tenth frame, index 9, the
record watches for its confirmation, or is IDLE when that is no longer waited for. CONFIRM_TIMER_EXPIRY while the
confirmation waits leaves the intertrip UNCONFIRMED and raises INTERTRIP UNCONFIRMED. An expiry acts when its timer is
running and due, the model's reading (log 2). That the record keeps its other fields in IDLE is log 20. That a periodic
timer runs again from the clock at which its expiry is taken is log 46. -/
def Obligations.IntertripSenderTimers : Prop :=
  (∀ (f : Feeder) (s : State), Timer.due (s.sender f).repeatTimer s.clock → (s.sender f).state = .sending →
     ∃ t, exec (.repeatTimerExpiry f) s = .next t ∧
       ((s.sender f).nextIndex < 9 → t.sender f =
         { s.sender f with
           nextIndex := (s.sender f).nextIndex + 1, repeatTimer := some (s.clock + 20000) }) ∧
       (9 ≤ (s.sender f).nextIndex → (s.sender f).confirmation = some .waiting → t.sender f =
         { s.sender f with nextIndex := (s.sender f).nextIndex + 1, repeatTimer := none, state := .watching }) ∧
       (9 ≤ (s.sender f).nextIndex → (s.sender f).confirmation ≠ some .waiting → t.sender f =
         { s.sender f with nextIndex := (s.sender f).nextIndex + 1, repeatTimer := none, state := .idle }) ∧
       (∀ p, s.directPort f = some p → (s.port p).urgent.length < 8 →
         ∃ q, (t.port p).urgent = (s.port p).urgent ++ [q] ∧ q.frame.header.scope = .segment ∧
           q.frame.payload = .intertrip (s.intertripBody f (s.sender f).nextIndex) ∧
           t.port (other p) = s.port (other p)) ∧
       (s.directPort f = none → (∀ p, (s.port p).urgent.length < 8) → ∀ p, (s.port p).state ≠ .off →
         ∃ q, (t.port p).urgent = (s.port p).urgent ++ [q] ∧ q.frame.header.scope = .network ∧
           q.frame.payload = .intertrip (s.intertripBody f (s.sender f).nextIndex)) ∧
       s.otherSendersKept t f ∧ s.onlyPpScRc t) ∧
  (∀ (f : Feeder) (s : State), Timer.due (s.sender f).confirmTimer s.clock →
     (s.sender f).confirmation = some .waiting →
     ∃ t, exec (.confirmTimerExpiry f) s = .next t ∧
       t.sender f =
         { s.sender f with
           confirmation := some .unconfirmed, confirmTimer := none,
           state := if (s.sender f).state = .watching then .idle else (s.sender f).state } ∧
       s.alarmed t .intertripUnconfirmed (.feeder f) (s.feederSet f).farStation.toNat ∧
       s.otherSendersKept t f ∧ s.onlyPpScRc t)

/-- DWELL_TIMER_EXPIRY: unless this station and every qualifying peer are saturated, the trim moves by Tstep, down for
HIGH and up for LOW, within -Tmax to Tmax; the register advances once and a new dwell starts. DECAY_TIMER_EXPIRY: the
trim moves toward 0 by Tstep, or to 0 where it lies nearer; the timer runs again for 1 s while the trim is not 0. An
expiry acts when its timer is running and due, the model's reading (log 2). That a periodic timer runs again from the
clock at which its expiry is taken is log 46. -/
def Obligations.TrimMoves : Prop :=
  (∀ s : State, Timer.due s.sc.dwellTimer s.clock →
     ∃ t, exec .dwellTimerExpiry s = .next t ∧
       (s.stepWithheld = true → t.sc.trim = s.sc.trim) ∧
       (s.stepWithheld = false → s.sc.condition = .high →
         t.sc.trim = max (-s.rect.tmax) (min s.rect.tmax (s.sc.trim - s.rect.tstep))) ∧
       (s.stepWithheld = false → s.sc.condition = .low →
         t.sc.trim = max (-s.rect.tmax) (min s.rect.tmax (s.sc.trim + s.rect.tstep))) ∧
       t.sc.register = advanceLoad s.sc.register ∧
       t.sc.dwellTimer =
         some (s.clock + (s.rect.tdw + t.sc.register.toNat * s.rect.tdw / 65536) * 1000) ∧
       t.sc.condition = s.sc.condition ∧
       t = { s with sc := { s.sc with trim := t.sc.trim, register := t.sc.register, dwellTimer := t.sc.dwellTimer } }) ∧
  (∀ s : State, Timer.due s.sc.decayTimer s.clock → 0 ≤ s.rect.tstep →
     ∃ t, exec .decayTimerExpiry s = .next t ∧
       (s.rect.tstep ≤ s.sc.trim → t.sc.trim = s.sc.trim - s.rect.tstep) ∧
       (s.sc.trim ≤ -s.rect.tstep → t.sc.trim = s.sc.trim + s.rect.tstep) ∧
       (-s.rect.tstep < s.sc.trim → s.sc.trim < s.rect.tstep → t.sc.trim = 0) ∧
       t.sc.decayTimer = (if t.sc.trim = 0 then none else some (s.clock + 1000000)) ∧
       t = { s with sc := { s.sc with trim := t.sc.trim, decayTimer := t.sc.decayTimer } })

/-! ### Alarms -/

/-- A raise that finds an entry of its kind and object that the gateway has not taken is merged into it; any other is
added as the newest entry, evicts the first of the least urgent PENDING entries of a full table when it is more urgent,
or is dropped when it is not. The judgement of the presentation presents the most urgent PENDING entry below the floor,
under the next tag, when no entry is with the gateway; a more urgent candidate preempts a PRESENTED entry, and a floor
at its priority or below withdraws it. That the oldest of the least urgent entries is the first added is log 30, and
that a preemption is two changes log 10. -/
def Obligations.AlarmTableRules : Prop :=
  (∀ (a : Raise) (now : Nat) (r : Reports) (before after : List Alarm) (e : Alarm),
     r.table = before ++ e :: after → (∀ x ∈ before, a.merges x = false) → a.merges e = true →
     (r.raise a now).1 =
         { r with
           table := before ++ { e with count := min 65535 (e.count + 1), last := now, detail := a.detail } :: after } ∧
       (r.raise a now).2 = 0) ∧
  (∀ (a : Raise) (now : Nat) (r : Reports), r.Ok → (∀ x ∈ r.table, a.merges x = false) →
     let t := (r.raise a now).1
     (r.table.length < 32 →
       t.table.map Alarm.unjudged = r.table.map Alarm.unjudged ++ [a.entry now] ∧ t.overflow = r.overflow ∧
       (∀ x ∈ r.table, x.state = .accepted → x ∈ t.table) ∧
       ∃ y ∈ t.table, y.kind = a.kind ∧ y.object = a.object ∧ y.priority = a.priority ∧ y.cause = a.cause ∧
         y.detail = a.detail ∧ y.first = now ∧ y.last = now ∧ y.count = 1) ∧
     (r.table.length = 32 → (∀ x ∈ r.table, x.state = .pending → x.priority ≤ a.priority) →
       t = { r with overflow := true }) ∧
     (∀ (before after : List Alarm) (e : Alarm), r.table = before ++ e :: after → r.table.length = 32 →
       e.state = .pending → a.priority < e.priority →
       (∀ x ∈ r.table, x.state = .pending → x.priority ≤ e.priority) →
       (∀ x ∈ before, x.state = .pending → x.priority < e.priority) →
       t.table.map Alarm.unjudged = (before ++ after).map Alarm.unjudged ++ [a.entry now] ∧ t.overflow = true ∧
         (∀ x ∈ before ++ after, x.state = .accepted → x ∈ t.table) ∧
         ∃ y ∈ t.table, y.kind = a.kind ∧ y.object = a.object ∧ y.first = now ∧ y.count = 1)) ∧
  (∀ r : Reports,
     (∀ e, r.slot = some e → e.state = .accepted → r.judge = (r, 0)) ∧
     (r.slot = none → (∀ e ∈ r.table, r.floor ≤ e.priority) → r.judge = (r, 0)) ∧
     (∀ e ∈ r.table, r.slot = none → e.priority < r.floor → (∀ x ∈ r.table, e.priority ≤ x.priority) →
       r.judge.2 = 1 ∧ r.judge.1.tag = r.tag + 1 ∧
         ∃ y, r.judge.1.presented = some y ∧ y.priority = e.priority ∧ y.tag = some (r.tag + 1) ∧
           y.state = .presented)) ∧
  (∀ (r : Reports) (e : Alarm), r.slot = some e → r.table.filter (·.state != .pending) = [e] → e.state = .presented →
     (e.priority < r.floor → (∀ x ∈ r.table, x.state = .pending → x.priority < r.floor → e.priority ≤ x.priority) →
       r.judge = (r, 0)) ∧
     (∀ x ∈ r.table, x.state = .pending → x.priority < r.floor → x.priority < e.priority →
       (∀ y ∈ r.table, y.state = .pending → x.priority ≤ y.priority) →
       r.judge.2 = 2 ∧ r.judge.1.tag = r.tag + 1 ∧ { e with state := .pending, tag := none } ∈ r.judge.1.table ∧
         ∃ y, r.judge.1.presented = some y ∧ y.priority = x.priority ∧ y.tag = some (r.tag + 1)) ∧
     (r.floor ≤ e.priority → (∀ x ∈ r.table, x.state = .pending → r.floor ≤ x.priority) →
       r.judge.2 = 1 ∧ r.judge.1.tag = r.tag ∧ { e with state := .pending, tag := none } ∈ r.judge.1.table ∧
         r.judge.1.presented = none))

/-! ### Commands of the gateway -/

/-- A COMMAND frame for another station changes nothing here but what hearing it does; one that does not come from a
gateway raises COMMAND REJECTED and leaves no result. In CONFIG FAULT every command with a valid number but RESTART is
REFUSED STATE. A code outside 1 to 15, and a feeder or group number outside its range, is BAD ARGUMENT. None of these
has another effect. -/
def Obligations.CommandsTurnedAway : Prop :=
  (∀ (k : Command) (c : CommandOperands) (s : State),
     s.takesFrame c.port (commandFrame c k.code) → s.notForwarded c.port c.header → s.cl.restartTimer = none →
     ∃ t, exec (k.row c) s = .next t ∧
       (c.target ≠ s.cl.station → t = s.heard c.port c.header) ∧
       (c.target = s.cl.station → s.cl.mode = .running → s.isGateway c.header.origin = false →
         (s.heard c.port c.header).SameButReports t ∧
           s.alarmed t .commandRejected (.peer c.header.origin) k.code.toNat)) ∧
  (∀ (k : Command) (c : CommandOperands) (s : State), k ≠ .restart →
     s.takesFrame c.port (commandFrame c k.code) → s.notForwarded c.port c.header → c.target = s.cl.station →
     s.cl.mode = .configFault → s.cl.restartTimer = none → k.badNumber c.number = false →
     ∃ t, exec (k.row c) s = .next t ∧
       t = { s.heard c.port c.header with
             rc := { s.rc with
                     lastResult := some { gateway := c.header.origin, code := k.code, result := .refusedState } } }) ∧
  (∀ (c : CommandOperands) (s : State), s.notForwarded c.port c.header → s.cl.restartTimer = none →
     (∀ code, Command.ofCode code = none → s.takesCommand c code →
       exec (.unknownCommand c code) s = .next
         { s.heard c.port c.header with
           rc := { s.rc with
                   lastResult := some { gateway := c.header.origin, code := code, result := .badArgument } } }) ∧
     (∀ k : Command, s.takesCommand c k.code → k.badNumber c.number = true →
       exec (k.row c) s = .next
         { s.heard c.port c.header with
           rc := { s.rc with
                   lastResult := some { gateway := c.header.origin, code := k.code, result := .badArgument } } }))

/-- OPEN of an enabled feeder, answered DONE: it trips a CLOSED or CLOSING feeder with cause CONTROL, ends a test
without a trip, opens a TRIPPED or LOCKOUT feeder with its attempts at 0, and changes nothing in OPEN, TRIPPING and
FAILED. CLOSE of an enabled feeder: in OPEN without an interlock it begins a manual line test and is answered DONE,
unless a lower-numbered station tests or a lane is lost, which leaves it OPEN; in OPEN with an interlock it is REFUSED
INTERLOCK, and in any other state REFUSED STATE. -/
def Obligations.OpenAndCloseCommands : Prop :=
  (∀ (c : CommandOperands) (f : Feeder) (s : State), s.takesCommand c 1 → feederOf c.number = some f →
     s.feederEnabled f → s.notForwarded c.port c.header →
     ∃ t, exec (.openFeeder c) s = .next t ∧ t.answered c .openFeeder .done ∧
       ((s.feeder f).state = .closed ∨ (s.feeder f).state = .closing →
         (s.heard c.port c.header).TripStarted t f .control none) ∧
       ((s.feeder f).state ∈ [.testing, .tripped, .lockout] → t.Opened f 0 ∧ s.otherFeedersKept t f) ∧
       ((s.feeder f).state = .testing → (t.feeder f).contactor = false ∧ (t.feeder f).test = none) ∧
       ((s.feeder f).state ∈ [.opened, .tripping, .failed] → t.fs = s.fs ∧ t.fp = s.fp)) ∧
  (∀ (c : CommandOperands) (f : Feeder) (s : State), s.takesCommand c 2 → feederOf c.number = some f →
     s.feederEnabled f → s.notForwarded c.port c.header →
     ∃ t, exec (.closeFeeder c) s = .next t ∧
       ((s.feeder f).state = .opened → (s.feeder f).holds.interlock = false → s.lowerNotice f = false →
         (s.feeder f).holds.lane = false →
         t.answered c .closeFeeder .done ∧
           t.feeder f =
             { s.feeder f with
               state := .testing, role := some .manual, dead := none, follow := none, live := .stopped,
               test := some { stage := .notice, timer := s.clock + 60000,
                              startSent := (s.feederSet f).farStation != 0, agreement := none } }) ∧
       ((s.feeder f).state = .opened → (s.feeder f).holds.interlock = false →
         (s.lowerNotice f = true ∨ (s.feeder f).holds.lane = true) →
         t.answered c .closeFeeder .done ∧ t.Opened f (s.feeder f).attempts) ∧
       ((s.feeder f).state = .opened → (s.feeder f).holds.interlock = true →
         t.answered c .closeFeeder .refusedInterlock ∧ t.fs = s.fs ∧ t.fp = s.fp) ∧
       ((s.feeder f).state ≠ .opened →
         t.answered c .closeFeeder .refusedState ∧ t.fs = s.fs ∧ t.fp = s.fp) ∧
       s.otherFeedersKept t f)

/-- BLOCK RECLOSE of an enabled feeder sets its flag, and a TRIPPED feeder goes to LOCKOUT; UNBLOCK RECLOSE clears the
flag. RESET FEEDER opens a LOCKOUT feeder, and a FAILED one whose breaker has opened and whose current is out,
releasing its trip coil and, when no other feeder is FAILED, the BREAKER FAILURE cause of the groups. A feeder that is
not enabled answers every command REFUSED STATE. -/
def Obligations.FeederFlagCommands : Prop :=
  (∀ (c : CommandOperands) (f : Feeder) (s : State), feederOf c.number = some f → s.notForwarded c.port c.header →
     (s.takesCommand c 3 → s.feederEnabled f →
       ∃ t, exec (.blockReclose c) s = .next t ∧ t.answered c .blockReclose .done ∧ (t.feeder f).blocked = true ∧
         ((s.feeder f).state ≠ .tripped → t.feeder f = { s.feeder f with blocked := true }) ∧
         ((s.feeder f).state = .tripped → t.LockedOut f) ∧ s.otherFeedersKept t f) ∧
     (s.takesCommand c 4 → s.feederEnabled f →
       ∃ t, exec (.unblockReclose c) s = .next t ∧ t.answered c .unblockReclose .done ∧
         t.feeder f = { s.feeder f with blocked := false } ∧ s.otherFeedersKept t f ∧ t.fp = s.fp) ∧
     (∀ k : Command, k ∈ [.openFeeder, .closeFeeder, .blockReclose, .unblockReclose, .resetFeeder] →
       s.takesCommand c k.code → s.feederEnabled f = false →
       ∃ t, exec (k.row c) s = .next t ∧ t.answered c k .refusedState ∧ t.fs = s.fs ∧ t.fp = s.fp)) ∧
  (∀ (c : CommandOperands) (f : Feeder) (s : State), s.takesCommand c 5 → feederOf c.number = some f →
     s.feederEnabled f → s.notForwarded c.port c.header →
     ∃ t, exec (.resetFeeder c) s = .next t ∧
       ((s.feeder f).state = .lockout → t.answered c .resetFeeder .done ∧ t.Opened f 0) ∧
       ((s.feeder f).state = .failed → s.tripComplete f = true →
         t.answered c .resetFeeder .done ∧ (t.feeder f).state = .opened ∧ (t.feeder f).tripCoil = false ∧
           (t.feeder f).op = .none ∧ (t.feeder f).attempts = 0 ∧ (t.feeder f).tripCause = none ∧
           ((∀ f', f' ≠ f → (s.feeder f').state ≠ .failed) →
             ∀ g, (s.group g).state ≠ .off → (t.group g).causes.breakerFailure = false) ∧
           ((∃ f', f' ≠ f ∧ (s.feeder f').state = .failed) → t.fc = s.fc)) ∧
       ((s.feeder f).state = .failed → s.tripComplete f = false →
         t.answered c .resetFeeder .refusedState ∧ t.fs = s.fs ∧ t.fc = s.fc) ∧
       ((s.feeder f).state ≠ .lockout → (s.feeder f).state ≠ .failed →
         t.answered c .resetFeeder .refusedState ∧ t.fs = s.fs ∧ t.fc = s.fc) ∧
       s.otherFeedersKept t f)

/-- RESET GROUP removes a group's FAULT, and the group starts when no other cause remains; without FAULT it is REFUSED
STATE. SET VOLTAGE sets Vset to its argument clamped to Vmin to Vmax, and is DONE. -/
def Obligations.GroupCommands : Prop :=
  (∀ (c : CommandOperands) (g : Group) (s : State), s.takesCommand c 6 → groupOf c.number = some g →
     s.notForwarded c.port c.header →
     ∃ t, exec (.resetGroup c) s = .next t ∧
       ((s.group g).causes.fault = true → (s.group g).state = .blocked →
         t.answered c .resetGroup .done ∧ (t.group g).causes = { (s.group g).causes with fault := false } ∧
           (t.group g).state =
             (if ({ (s.group g).causes with fault := false } : CauseSet).isEmpty then .starting else .blocked)) ∧
       ((s.group g).causes.fault = false → t.answered c .resetGroup .refusedState ∧ t.fc = s.fc) ∧
       t.group (other g) = s.group (other g) ∧ t.fs = s.fs ∧ t.fp = s.fp ∧ t.st = s.st) ∧
  (∀ (c : CommandOperands) (s : State), s.takesCommand c 7 →
     ∃ t, exec (.setVoltage c) s = .next t ∧
       State.SameButReports
         { s.heard c.port c.header with
           fc := { s.fc with vset := some (max s.rect.vmin (min s.rect.vmax c.arg.toNat)) },
           rc := { s.rc with
                   lastResult := some { gateway := c.header.origin, code := 7, result := .done } } } t)

/-- STANDBY in a station that is awake is taken when no feeder is in CLOSING, TRIPPING, TESTING, TRIPPED or FAILED, no
entry of priority 0 to 3 is in the alarm table, a peer runs, and no peer is in standby; then standby begins at the
station time, the groups that are not OFF hold STANDBY and do not fire, and the trim is kept with its dwell timer
stopped. Otherwise it is NOT TAKEN, and in standby REFUSED STATE. -/
def Obligations.StandbyCommand : Prop :=
  (∀ (c : CommandOperands) (s : State), s.takesCommand c 8 → s.notForwarded c.port c.header →
     ∃ t, exec (.standby c) s = .next t ∧
       (s.fc.standby = true → t.answered c .standby .refusedState ∧ t.fc = s.fc) ∧
       (s.fc.standby = false → s.standbyAllowed = true →
         t.answered c .standby .done ∧ t.fc.standby = true ∧ t.fc.entryTime = some s.time ∧
           (∀ g, (s.group g).state ≠ .off → (t.group g).causes.standby = true) ∧
           (s.FiringOk → ∀ g, (t.group g).state.fires = false) ∧ t.sc.trim = s.sc.trim ∧ t.sc.dwellTimer = none) ∧
       (s.fc.standby = false → s.standbyAllowed = false →
         t = { s.heard c.port c.header with
               rc := { s.rc with
                       lastResult := some { gateway := c.header.origin, code := 8, result := .notTaken } } }) ∧
       t.fs = s.fs ∧ t.fp = s.fp ∧ t.st = s.st) ∧
  (∀ s : State, s.standbyAllowed = true ↔
     (∀ f, (s.feeder f).state ≠ .closing ∧ (s.feeder f).state ≠ .tripping ∧ (s.feeder f).state ≠ .testing ∧
       (s.feeder f).state ≠ .tripped ∧ (s.feeder f).state ≠ .failed) ∧
     (∀ e ∈ s.rc.table, 3 < e.priority) ∧
     (∃ e ∈ s.sc.peers, ∃ b, e.pinned = true ∧ e.health = .fresh ∧ e.contents = some b ∧ (b.g1 = 3 ∨ b.g2 = 3) ∧
       b.flags.getLsbD 0 = false) ∧
     (∀ e ∈ s.sc.peers, ∀ b, e.pinned = true → e.health = .fresh → e.contents = some b → b.flags.getLsbD 0 = false))

/-- SET FLOOR sets the floor to its argument, at most 16. ACCEPT with the tag of the presented entry takes it and
originates a REPORT of it at NETWORK scope, and with the tag of the entry already taken sends its REPORT again; with
any other tag it is STALE TAG. DONE with the tag of the ACCEPTED entry removes it and keeps every other entry, and the
most urgent PENDING entry below the floor, if any, is presented under the next tag; in any other case DONE is REFUSED
STATE. That SET FLOOR and ACCEPT keep the table's entries, and DONE all but the one removed, is said for ports whose
routine queues have room. The detail field of a REPORT is log 23, and its unnamed bits are log 70. -/
def Obligations.AlarmCommands : Prop :=
  (∀ (c : CommandOperands) (s : State), s.takesCommand c 10 → s.rc.Ok → s.notForwarded c.port c.header →
     ∃ t, exec (.setFloor c) s = .next t ∧ t.answered c .setFloor .done ∧ t.rc.floor = min c.arg.toNat 16 ∧
       (∀ e, s.rc.slot = some e → e.state = .accepted → t.rc.slot = some e) ∧
       (∀ e, t.rc.presented = some e → e.priority < min c.arg.toNat 16) ∧
       ((∀ p, (s.port p).routine.length < 16) → t.rc.table.map Alarm.unjudged = s.rc.table.map Alarm.unjudged) ∧
       (s.heard c.port c.header).onlyPpRc t) ∧
  (∀ (c : CommandOperands) (s : State), s.takesCommand c 11 → s.notForwarded c.port c.header → s.cl.mode = .running →
     ∃ t, exec (.acceptAlarm c) s = .next t ∧
       (∀ e, s.rc.slot = some e → e.tag = some c.tag →
         t.answered c .acceptAlarm .done ∧ t.rc.slot = some { e with state := .accepted } ∧
           ((∀ p, (s.port p).routine.length < 15) →
             t.rc.table.map Alarm.unjudged = s.rc.table.map Alarm.unjudged ∧
             ∀ p, (s.port p).state ≠ .off →
               ∃ q ∈ (t.port p).routine, q.own = true ∧ q.frame.header.scope = .network ∧
                 q.frame.payload = .report (s.reportBody { e with state := .accepted }))) ∧
       ((∀ e, s.rc.slot = some e → e.tag ≠ some c.tag) →
         t = { s.heard c.port c.header with
               rc := { s.rc with
                       lastResult := some { gateway := c.header.origin, code := 11, result := .staleTag } } }) ∧
       (s.heard c.port c.header).onlyPpRc t) ∧
  (∀ (c : CommandOperands) (s : State), s.takesCommand c 12 → s.rc.Ok → s.notForwarded c.port c.header →
     ∃ t, exec (.alarmDone c) s = .next t ∧
       (∀ e, s.rc.slot = some e → e.state = .accepted → e.tag = some c.tag →
         t.answered c .alarmDone .done ∧ (∀ x ∈ t.rc.table, x.state ≠ .accepted) ∧
           ((∀ p, (s.port p).routine.length < 16) →
             t.rc.table.map Alarm.unjudged = (s.rc.table.filter (·.state != .accepted)).map Alarm.unjudged ∧
             ((∀ x ∈ s.rc.table, x.state = .pending → s.rc.floor ≤ x.priority) →
               t.rc.slot = none ∧ t.rc.tag = s.rc.tag) ∧
             (∀ x ∈ s.rc.table, x.state = .pending → x.priority < s.rc.floor →
               (∀ y ∈ s.rc.table, y.state = .pending → x.priority ≤ y.priority) →
               ∃ y, t.rc.presented = some y ∧ y.priority = x.priority ∧ y.tag = some (s.rc.tag + 1)))) ∧
       ((∀ e, s.rc.slot = some e → e.state = .accepted → e.tag ≠ some c.tag) →
         t = { s.heard c.port c.header with
               rc := { s.rc with
                       lastResult := some { gateway := c.header.origin, code := 12, result := .refusedState } } }) ∧
       (s.heard c.port c.header).onlyPpRc t)

/-- CLEAR INPUT FLAGS clears the change flag of every input its mask names and leaves the other flags, the levels and
the timers; CLEAR OVERFLOW clears the overflow flag and leaves the table. Both are DONE. -/
def Obligations.ClearCommands : Prop :=
  ∀ (c : CommandOperands) (s : State), s.notForwarded c.port c.header →
    (s.takesCommand c 13 →
      ∃ t, exec (.clearInputFlags c) s = .next t ∧ t.answered c .clearInputFlags .done ∧
        (∀ i : Input, t.input i =
          { s.input i with changed := (s.input i).changed && !c.arg.getLsbD i.val }) ∧
        t = { s.heard c.port c.header with im := t.im, rc := { s.rc with lastResult := t.rc.lastResult } }) ∧
    (s.takesCommand c 14 →
      exec (.clearOverflow c) s = .next
        { s.heard c.port c.header with
          rc := { s.rc with
                  overflow := false,
                  lastResult := some { gateway := c.header.origin, code := 14, result := .done } } })

/-- RESTART is answered DONE in a STATUS originated at once, and starts the restart timer at 20 ms while a port has
that STATUS to send. RESTART_TIMER_EXPIRY performs the reset of RESET with the straps as they stand, and so does the
FRAME_SENT or the 16th COLLISION that ends the last copy of that STATUS. An expiry acts when its timer is running and
due, the model's reading (log 2). How a RESTART waits for its STATUS is log 29; that the segment is idle after the
part's own frame and busy after a collision is log 19. -/
def Obligations.RestartResets : Prop :=
  (∀ (c : CommandOperands) (s : State), s.takesCommand c 15 → s.notForwarded c.port c.header →
     (∀ p, (s.port p).routine.length < 16) → (∀ p, ∀ q ∈ (s.port p).routine, q.ownStatus = false) →
     s.cl.restartTimer = none →
     ∃ t, exec (.restart c) s = .next t ∧ t.answered c .restart .done ∧
       t.cl = { s.cl with restartTimer := some (s.clock + 20000) } ∧ t.pp.seq = s.pp.seq + 1 ∧
       (∀ p, (s.port p).state ≠ .off → ∃ q ∈ (t.port p).routine, q.own = true ∧ q.restart = true ∧
         ∃ b, q.frame.payload = .status b ∧ b.result = some ⟨c.header.origin, 15, 1⟩) ∧
       t = { s with cl := t.cl, pp := t.pp, rc := t.rc }) ∧
  (∀ s : State, Timer.due s.cl.restartTimer s.clock →
     ∃ t, exec .restartTimerExpiry s = .next t ∧ exec (.reset s.pins.straps) s = .next t) ∧
  (∀ (p : Port) (s : State), s.cl.restartTimer.isSome → (s.port p).tx = .send →
     (∀ q ∈ (s.port p).removeInHand.routine, q.restart = false) →
     ((s.port (other p)).state = .off ∨ (∀ q ∈ (s.port (other p)).routine, q.restart = false) →
       (Timer.due (s.port p).sendEnd s.clock →
         ∃ t, exec (.frameSent p) s = .next t ∧
           exec (.reset s.pins.straps) { s with pins := { s.pins with busy := s.pins.busy.set p false } } = .next t) ∧
       (15 ≤ (s.port p).attempts →
         ∃ t, exec (.collision p) s = .next t ∧
           exec (.reset s.pins.straps) { s with pins := { s.pins with busy := s.pins.busy.set p true } } = .next t)) ∧
     ((s.port (other p)).state ≠ .off → (∃ q ∈ (s.port (other p)).routine, q.restart = true) →
       Timer.due (s.port p).sendEnd s.clock → ∃ t, exec (.frameSent p) s = .next t ∧ t.cl = s.cl ∧ t.fs = s.fs))

/-! ### Levels at the pins -/

/-- CONTACT_RAW_CHANGE restarts the contact's debounce timer at 5 ms, and INPUT_RAW_CHANGE, from the hand-over on, the
input's at its debounce time; the level that stands already changes nothing. SEGMENT_BUSY: a port in GAP goes back to
DEFER with its gap timer stopped. SEGMENT_IDLE: a port waiting in DEFER enters GAP with the full gap of the class in
hand, 40 us for urgent frames and 80 us with the station's share for routine ones. That a change to the level that
stands is none is log 37, and that a port hears nothing from its collision until the segment is idle log 19. -/
def Obligations.LevelsChange : Prop :=
  (∀ (f : Feeder) (closed : Bool) (s : State), ∃ t, exec (.contactRawChange f closed) s = .next t ∧
     (s.pins.contacts[f] = closed → t = s) ∧
     (s.pins.contacts[f] ≠ closed →
       t.pins = { s.pins with contacts := s.pins.contacts.set f closed } ∧
       t.feeder f = { s.feeder f with contactTimer := some (s.clock + 5000) } ∧
       (∀ f', f' ≠ f → t.feeder f' = s.feeder f') ∧ t = { s with pins := t.pins, fs := t.fs })) ∧
  (∀ (i : Input) (closed : Bool) (s : State), ∃ t, exec (.inputRawChange i closed) s = .next t ∧
     (s.pins.inputs[i] = closed → t = s) ∧
     (s.pins.inputs[i] ≠ closed →
       t.pins = { s.pins with inputs := s.pins.inputs.set i closed } ∧
       (s.cl.settings.isSome →
         t.input i = { s.input i with timer := some (s.clock + (s.inputSet i).debounce * 1000) }) ∧
       (s.cl.settings = none → t.input i = s.input i) ∧
       (∀ i', i' ≠ i → t.input i' = s.input i') ∧ t = { s with pins := t.pins, im := t.im })) ∧
  (∀ (p : Port) (s : State), ∃ t, exec (.segmentBusy p) s = .next t ∧
     t.pins = { s.pins with busy := s.pins.busy.set p true } ∧
     t.port p = (if (s.port p).tx = .gap then { s.port p with tx := .defer, gapTimer := none } else s.port p) ∧
     t.port (other p) = s.port (other p) ∧
     t = { s with pins := t.pins, pp := { s.pp with ports := t.pp.ports } }) ∧
  (∀ (p : Port) (s : State), ∃ t, exec (.segmentIdle p) s = .next t ∧
     t.pins = { s.pins with busy := s.pins.busy.set p false } ∧
     ((s.port p).tx = .defer → (s.port p).hand = some .urgent →
       (t.port p).tx = .gap ∧ (t.port p).gapTimer = some (s.clock + 40)) ∧
     ((s.port p).tx = .defer → (s.port p).hand = some .routine →
       (t.port p).tx = .gap ∧
         (t.port p).gapTimer = some (s.clock + (80 + s.cl.station.toNat % 16 * 10))) ∧
     ((s.port p).tx ≠ .defer → t.port p = { s.port p with deaf := false }) ∧
     (t.port p).hand = (s.port p).hand ∧ (t.port p).urgent = (s.port p).urgent ∧
     (t.port p).routine = (s.port p).routine ∧ (t.port p).attempts = (s.port p).attempts ∧
     t.port (other p) = s.port (other p) ∧
     t = { s with pins := t.pins, pp := { s.pp with ports := t.pp.ports } })

/-- INPUT_DEBOUNCE_EXPIRY: a level unlike the one held is an edge: the level and the change flag are set, the interlock
of every feeder and the input cause of every group stand as the levels now ask, and the alarm of the edge's direction
is raised where it is enabled. The level held already changes nothing but the timer. An expiry acts when its timer is
running and due, the model's reading (log 2). -/
def Obligations.InputEdgeActs : Prop :=
  ∀ (i : Input) (s : State), Timer.due (s.input i).timer s.clock →
    ∃ t, exec (.inputDebounceExpiry i) s = .next t ∧
      (s.rawLevel i = (s.input i).active →
        t.input i = { s.input i with timer := none } ∧ t = { s with im := t.im }) ∧
      (s.rawLevel i ≠ (s.input i).active →
        t.input i = { active := s.rawLevel i, timer := none, changed := true }) ∧
      (let c := s.inputSet i
       let enabled := c.role ≠ .none ∧ (if s.rawLevel i then c.risingAlarm else c.fallingAlarm) = true
       (s.rawLevel i ≠ (s.input i).active → enabled → s.rc.table.length ≤ 16 →
          ∃ e ∈ t.rc.table, e.kind = .inputChange ∧ e.object = .input i ∧ e.state ≠ .accepted ∧ e.last = s.time ∧
            e.detail = some (if s.rawLevel i then 1 else 0) ∧
            ((∀ x ∈ s.rc.table, x.kind = .inputChange → x.object = .input i → x.state = .accepted) →
              e.priority = c.priority ∧ e.cause = none ∧ e.count = 1)) ∧
        (¬enabled → ∀ e ∈ t.rc.table, e.kind = .inputChange → e.object = .input i →
          ∃ x ∈ s.rc.table, x.unjudged = e.unjudged)) ∧
      (∀ i', i' ≠ i → t.input i' = s.input i') ∧
      (s.Ok → (∀ f, (t.feeder f).holds.interlock = t.interlocked f) ∧
        (∀ g, (s.group g).state ≠ .off → (t.group g).causes.input = t.inputBlocked g) ∧
        (∀ f, (s.feeder f).state ∈ [.closed, .tripping, .failed] →
          (t.feeder f).state = (s.feeder f).state ∧ (t.feeder f).tripCoil = (s.feeder f).tripCoil)) ∧
      t.clock = s.clock ∧ t.pins = s.pins ∧ t.li = s.li ∧ t.st = s.st ∧ t.cl = s.cl ∧ t.pending = s.pending

/-! ### What every step keeps -/

/-- Every step keeps the Configuration Loader (the image is read in STARTING alone, and a station runs exactly when it
holds an image copy), the lanes (values and runs in their ranges, no FRESH lane silent, Ibus the sum of the FRESH group
lanes) and the timebase (P and the phase in their ranges, each tracker timer in its own state alone, and the tracker
OFF outside RUNNING). That each tracker timer runs in its own state alone is log 16. -/
def Obligations.SupplyKept : Prop :=
  ∀ s t : State, s.Ok → step s = .next t → t.LoaderOk ∧ t.LanesOk ∧ t.TimebaseOk

/-- Every step keeps the groups: a group fires exactly while no cause is present, has a pulse or an armed firing only
while it fires, and its causes follow the tracker, the lanes, the inputs, the breakers and standby; Iacc is 0 whenever
neither group is RUNNING. -/
def Obligations.FiringKept : Prop :=
 ∀ s t : State, s.Ok → step s = .next t → t.FiringOk

/-- Every step keeps the feeders: the outputs only in their states and never against an interlock or a picked-up
element, each timer and operation in its state, and the hold reasons as the lanes, the inputs and the notices ask. -/
def Obligations.FeedersKept : Prop :=
 ∀ s t : State, s.Ok → step s = .next t → t.FeedersOk

/-- Every step keeps the ports: the queues within their lengths, a frame in hand exactly while a port is not IDLE, its
timers in their states, and no port in GAP on a busy segment. That an idle segment follows the part's own frame is log
19. -/
def Obligations.PilotKept : Prop :=
 ∀ s t : State, s.Ok → step s = .next t → t.PilotOk

/-- Every step keeps the peer table, the intertrip senders and load sharing in order. -/
def Obligations.CoordinatorKept : Prop :=
 ∀ s t : State, s.Ok → step s = .next t → t.CoordinatorOk

/-- Every step keeps the alarm table: at most 32 entries, no two open ones of one kind and object, at most one with the
gateway, and none waiting that should be presented. -/
def Obligations.AlarmsKept : Prop :=
 ∀ s t : State, s.Ok → step s = .next t → t.rc.Ok
end

