-- ==== Sys2Proof/Laws/State.lean ====
section
/-! SUPPORT. The records of State: what reading one gives after an update of one, and which blocks an update leaves as they
are. -/

namespace Sys2Proof.Machine

/-! ### LaneRec -/

@[simp] theorem State.setLane_lane_self (s : State) (l : Lane) (r : LaneRec) :
    (s.setLane l r).lane l = r := by
  simp [State.setLane, State.lane]

@[simp] theorem State.setLane_lane_ne (s : State) {l l' : Lane} (r : LaneRec) (ne : l' ≠ l) :
    (s.setLane l r).lane l' = s.lane l' := by
  have : (l : Nat) ≠ l' := fun e => ne (Fin.ext e.symm)
  simp [State.setLane, State.lane, this]

@[simp] theorem State.setLane_blocks (s : State) (l : Lane) (r : LaneRec) :
    (s.setLane l r).clock = s.clock ∧
      (s.setLane l r).pins = s.pins ∧
      (s.setLane l r).st = s.st ∧
      (s.setLane l r).fc = s.fc ∧
      (s.setLane l r).fp = s.fp ∧
      (s.setLane l r).fs = s.fs ∧
      (s.setLane l r).pp = s.pp ∧
      (s.setLane l r).sc = s.sc ∧
      (s.setLane l r).rc = s.rc ∧
      (s.setLane l r).im = s.im ∧
      (s.setLane l r).cl = s.cl ∧
      (s.setLane l r).pending = s.pending := by
  simp [State.setLane]

theorem State.lane_of_li {s t : State} (e : t.li = s.li) (l : Lane) : t.lane l = s.lane l := by
  simp [State.lane, e]

/-! ### SourceRec -/

@[simp] theorem State.modSource_source_self (s : State) (src : Source) (h : SourceRec → SourceRec) :
    (s.modSource src h).source src = h (s.source src) := by
  simp [State.modSource, State.source]

@[simp] theorem State.modSource_source_ne (s : State) {src src' : Source} (h : SourceRec → SourceRec) (ne : src' ≠ src) :
    (s.modSource src h).source src' = s.source src' := by
  have : (src : Nat) ≠ src' := fun e => ne (Fin.ext e.symm)
  simp [State.modSource, State.source, this]

@[simp] theorem State.modSource_blocks (s : State) (src : Source) (h : SourceRec → SourceRec) :
    (s.modSource src h).clock = s.clock ∧
      (s.modSource src h).pins = s.pins ∧
      (s.modSource src h).li = s.li ∧
      (s.modSource src h).fc = s.fc ∧
      (s.modSource src h).fp = s.fp ∧
      (s.modSource src h).fs = s.fs ∧
      (s.modSource src h).pp = s.pp ∧
      (s.modSource src h).sc = s.sc ∧
      (s.modSource src h).rc = s.rc ∧
      (s.modSource src h).im = s.im ∧
      (s.modSource src h).cl = s.cl ∧
      (s.modSource src h).pending = s.pending := by
  simp [State.modSource]

theorem State.source_of_st {s t : State} (e : t.st = s.st) (src : Source) : t.source src = s.source src := by
  simp [State.source, e]

/-! ### GroupRec -/

@[simp] theorem State.modGroup_group_self (s : State) (g : Group) (h : GroupRec → GroupRec) :
    (s.modGroup g h).group g = h (s.group g) := by
  simp [State.modGroup, State.group]

@[simp] theorem State.modGroup_group_ne (s : State) {g g' : Group} (h : GroupRec → GroupRec) (ne : g' ≠ g) :
    (s.modGroup g h).group g' = s.group g' := by
  have : (g : Nat) ≠ g' := fun e => ne (Fin.ext e.symm)
  simp [State.modGroup, State.group, this]

@[simp] theorem State.modGroup_blocks (s : State) (g : Group) (h : GroupRec → GroupRec) :
    (s.modGroup g h).clock = s.clock ∧
      (s.modGroup g h).pins = s.pins ∧
      (s.modGroup g h).li = s.li ∧
      (s.modGroup g h).st = s.st ∧
      (s.modGroup g h).fp = s.fp ∧
      (s.modGroup g h).fs = s.fs ∧
      (s.modGroup g h).pp = s.pp ∧
      (s.modGroup g h).sc = s.sc ∧
      (s.modGroup g h).rc = s.rc ∧
      (s.modGroup g h).im = s.im ∧
      (s.modGroup g h).cl = s.cl ∧
      (s.modGroup g h).pending = s.pending := by
  simp [State.modGroup]

theorem State.group_of_fc {s t : State} (e : t.fc = s.fc) (g : Group) : t.group g = s.group g := by
  simp [State.group, e]

/-! ### ProtRec -/

@[simp] theorem State.modProt_prot_self (s : State) (f : Feeder) (h : ProtRec → ProtRec) :
    (s.modProt f h).prot f = h (s.prot f) := by
  simp [State.modProt, State.prot]

@[simp] theorem State.modProt_prot_ne (s : State) {f f' : Feeder} (h : ProtRec → ProtRec) (ne : f' ≠ f) :
    (s.modProt f h).prot f' = s.prot f' := by
  have : (f : Nat) ≠ f' := fun e => ne (Fin.ext e.symm)
  simp [State.modProt, State.prot, this]

@[simp] theorem State.modProt_blocks (s : State) (f : Feeder) (h : ProtRec → ProtRec) :
    (s.modProt f h).clock = s.clock ∧
      (s.modProt f h).pins = s.pins ∧
      (s.modProt f h).li = s.li ∧
      (s.modProt f h).st = s.st ∧
      (s.modProt f h).fc = s.fc ∧
      (s.modProt f h).fs = s.fs ∧
      (s.modProt f h).pp = s.pp ∧
      (s.modProt f h).sc = s.sc ∧
      (s.modProt f h).rc = s.rc ∧
      (s.modProt f h).im = s.im ∧
      (s.modProt f h).cl = s.cl ∧
      (s.modProt f h).pending = s.pending := by
  simp [State.modProt]

theorem State.prot_of_fp {s t : State} (e : t.fp = s.fp) (f : Feeder) : t.prot f = s.prot f := by
  simp [State.prot, e]

/-! ### FeederRec -/

@[simp] theorem State.modFeeder_feeder_self (s : State) (f : Feeder) (h : FeederRec → FeederRec) :
    (s.modFeeder f h).feeder f = h (s.feeder f) := by
  simp [State.modFeeder, State.feeder]

@[simp] theorem State.modFeeder_feeder_ne (s : State) {f f' : Feeder} (h : FeederRec → FeederRec) (ne : f' ≠ f) :
    (s.modFeeder f h).feeder f' = s.feeder f' := by
  have : (f : Nat) ≠ f' := fun e => ne (Fin.ext e.symm)
  simp [State.modFeeder, State.feeder, this]

@[simp] theorem State.modFeeder_blocks (s : State) (f : Feeder) (h : FeederRec → FeederRec) :
    (s.modFeeder f h).clock = s.clock ∧
      (s.modFeeder f h).pins = s.pins ∧
      (s.modFeeder f h).li = s.li ∧
      (s.modFeeder f h).st = s.st ∧
      (s.modFeeder f h).fc = s.fc ∧
      (s.modFeeder f h).fp = s.fp ∧
      (s.modFeeder f h).pp = s.pp ∧
      (s.modFeeder f h).sc = s.sc ∧
      (s.modFeeder f h).rc = s.rc ∧
      (s.modFeeder f h).im = s.im ∧
      (s.modFeeder f h).cl = s.cl ∧
      (s.modFeeder f h).pending = s.pending := by
  simp [State.modFeeder]

theorem State.feeder_of_fs {s t : State} (e : t.fs = s.fs) (f : Feeder) : t.feeder f = s.feeder f := by
  simp [State.feeder, e]

/-! ### PortRec -/

@[simp] theorem State.modPort_port_self (s : State) (p : Port) (h : PortRec → PortRec) :
    (s.modPort p h).port p = h (s.port p) := by
  simp [State.modPort, State.port]

@[simp] theorem State.modPort_port_ne (s : State) {p p' : Port} (h : PortRec → PortRec) (ne : p' ≠ p) :
    (s.modPort p h).port p' = s.port p' := by
  have : (p : Nat) ≠ p' := fun e => ne (Fin.ext e.symm)
  simp [State.modPort, State.port, this]

@[simp] theorem State.modPort_blocks (s : State) (p : Port) (h : PortRec → PortRec) :
    (s.modPort p h).clock = s.clock ∧
      (s.modPort p h).pins = s.pins ∧
      (s.modPort p h).li = s.li ∧
      (s.modPort p h).st = s.st ∧
      (s.modPort p h).fc = s.fc ∧
      (s.modPort p h).fp = s.fp ∧
      (s.modPort p h).fs = s.fs ∧
      (s.modPort p h).sc = s.sc ∧
      (s.modPort p h).rc = s.rc ∧
      (s.modPort p h).im = s.im ∧
      (s.modPort p h).cl = s.cl ∧
      (s.modPort p h).pending = s.pending := by
  simp [State.modPort]

theorem State.port_of_pp {s t : State} (e : t.pp = s.pp) (p : Port) : t.port p = s.port p := by
  simp [State.port, e]

/-! ### SenderRec -/

@[simp] theorem State.modSender_sender_self (s : State) (f : Feeder) (h : SenderRec → SenderRec) :
    (s.modSender f h).sender f = h (s.sender f) := by
  simp [State.modSender, State.sender]

@[simp] theorem State.modSender_sender_ne (s : State) {f f' : Feeder} (h : SenderRec → SenderRec) (ne : f' ≠ f) :
    (s.modSender f h).sender f' = s.sender f' := by
  have : (f : Nat) ≠ f' := fun e => ne (Fin.ext e.symm)
  simp [State.modSender, State.sender, this]

@[simp] theorem State.modSender_blocks (s : State) (f : Feeder) (h : SenderRec → SenderRec) :
    (s.modSender f h).clock = s.clock ∧
      (s.modSender f h).pins = s.pins ∧
      (s.modSender f h).li = s.li ∧
      (s.modSender f h).st = s.st ∧
      (s.modSender f h).fc = s.fc ∧
      (s.modSender f h).fp = s.fp ∧
      (s.modSender f h).fs = s.fs ∧
      (s.modSender f h).pp = s.pp ∧
      (s.modSender f h).rc = s.rc ∧
      (s.modSender f h).im = s.im ∧
      (s.modSender f h).cl = s.cl ∧
      (s.modSender f h).pending = s.pending := by
  simp [State.modSender]

theorem State.sender_of_sc {s t : State} (e : t.sc = s.sc) (f : Feeder) : t.sender f = s.sender f := by
  simp [State.sender, e]

/-! ### InputRec -/

@[simp] theorem State.modInput_input_self (s : State) (i : Input) (h : InputRec → InputRec) :
    (s.modInput i h).input i = h (s.input i) := by
  simp [State.modInput, State.input]

@[simp] theorem State.modInput_input_ne (s : State) {i i' : Input} (h : InputRec → InputRec) (ne : i' ≠ i) :
    (s.modInput i h).input i' = s.input i' := by
  have : (i : Nat) ≠ i' := fun e => ne (Fin.ext e.symm)
  simp [State.modInput, State.input, this]

@[simp] theorem State.modInput_blocks (s : State) (i : Input) (h : InputRec → InputRec) :
    (s.modInput i h).clock = s.clock ∧
      (s.modInput i h).pins = s.pins ∧
      (s.modInput i h).li = s.li ∧
      (s.modInput i h).st = s.st ∧
      (s.modInput i h).fc = s.fc ∧
      (s.modInput i h).fp = s.fp ∧
      (s.modInput i h).fs = s.fs ∧
      (s.modInput i h).pp = s.pp ∧
      (s.modInput i h).sc = s.sc ∧
      (s.modInput i h).rc = s.rc ∧
      (s.modInput i h).cl = s.cl ∧
      (s.modInput i h).pending = s.pending := by
  simp [State.modInput]

theorem State.input_of_im {s t : State} (e : t.im = s.im) (i : Input) : t.input i = s.input i := by
  simp [State.input, e]

/-! ### Choices -/

/-- Every block of a choice is the choice of that block. -/
theorem State.ite_blocks (c : Prop) [Decidable c] (a b : State) :
    (if c then a else b).clock = (if c then a.clock else b.clock) ∧
      (if c then a else b).pins = (if c then a.pins else b.pins) ∧
      (if c then a else b).li = (if c then a.li else b.li) ∧
      (if c then a else b).st = (if c then a.st else b.st) ∧
      (if c then a else b).fc = (if c then a.fc else b.fc) ∧
      (if c then a else b).fp = (if c then a.fp else b.fp) ∧
      (if c then a else b).fs = (if c then a.fs else b.fs) ∧
      (if c then a else b).pp = (if c then a.pp else b.pp) ∧
      (if c then a else b).sc = (if c then a.sc else b.sc) ∧
      (if c then a else b).rc = (if c then a.rc else b.rc) ∧
      (if c then a else b).im = (if c then a.im else b.im) ∧
      (if c then a else b).cl = (if c then a.cl else b.cl) ∧
      (if c then a else b).pending = (if c then a.pending else b.pending) := by
  split <;> simp

end Sys2Proof.Machine
end

