-- ==== Sys2Proof/Laws/Frames.lean ====
section
/-! SUPPORT. The frame of every operation: the blocks of State that it leaves as they are. Each lemma names all of them at
once, as rewriting rules. -/

namespace Sys2Proof.Machine

/-! ### Sending and alarms -/

/-- A way to announce changes of the presented alarm that touches the ports and the alarm table alone. -/
def Harmless (an : Nat → State → State) : Prop := ∀ n (s : State), s.onlyPpRc (an n s)

@[simp] theorem State.tabled_frame (s : State) (a : Raise) : s.onlyPpRc (s.tabled a).1 := by
  unfold State.onlyPpRc
  simp [State.tabled]

@[simp] theorem State.enqueue_frame (s : State) (p : Port) (q : QFrame) : s.onlyPpRc (s.enqueue p q).1 := by
  unfold State.onlyPpRc
  unfold State.enqueue
  (repeat' split) <;> simp

@[simp] theorem State.enqueueOn_frame (s : State) (named : Port → Bool) (q : QFrame) :
    s.onlyPpRc (s.enqueueOn named q).1 := by
  unfold State.onlyPpRc
  unfold State.enqueueOn
  cases named 0 <;> cases named 1 <;> simp

theorem State.originateWith_frame {an : Nat → State → State} (h : Harmless an) (b : Payload) (c : Scope)
    (n : Port → Bool) (r : Bool) (s : State) : s.onlyPpRc (s.originateWith an b c n r) := by
  unfold State.onlyPpRc
  unfold Harmless State.onlyPpRc at h
  simp [State.originateWith, h]

theorem State.statusWith_frame {an : Nat → State → State} (h : Harmless an) (s : State) :
    s.onlyPpRc (s.statusWith an) := by
  unfold State.onlyPpRc
  unfold State.statusWith
  split <;> simp [State.originateWith_frame h]

theorem times_frame {g : State → State} (h : ∀ s : State, s.onlyPpRc (g s)) (n : Nat) (s : State) :
    s.onlyPpRc (times n g s) := by
  unfold State.onlyPpRc
  induction n generalizing s with
  | zero => simp [times]
  | succ n ih => simp [times, ih, h]

theorem announceWithin_harmless (d : Nat) : Harmless (announceWithin d) := by
  induction d with
  | zero => intro n s; unfold State.onlyPpRc; simp [announceWithin]
  | succ d ih => intro n s; unfold State.onlyPpRc; simp [announceWithin, times_frame (State.statusWith_frame ih)]

theorem announce_harmless : Harmless State.announce := announceWithin_harmless 4

@[simp] theorem State.announce_frame (s : State) (n : Nat) : s.onlyPpRc (State.announce n s) := announce_harmless n s

@[simp] theorem State.raise_frame (s : State) (a : Raise) : s.onlyPpRc (s.raise a) := by
  unfold State.onlyPpRc
  simp [State.raise]

@[simp] theorem State.alarm_frame (s : State) (k : AlarmKind) (o : AlarmObject) (c : Option Cause) (d : Int) :
    s.onlyPpRc (s.alarm k o c d) := by
  unfold State.onlyPpRc
  simp only [State.alarm]
  simp

@[simp] theorem State.originate_frame (s : State) (b : Payload) (c : Scope) (n : Port → Bool) :
    s.onlyPpRc (s.originate b c n) := by
  unfold State.onlyPpRc
  simp [State.originate, State.originateWith_frame announce_harmless]

@[simp] theorem State.status_frame (s : State) :
    s.onlyPpRc (s.status) := by
  unfold State.onlyPpRc
  simp [State.status, State.statusWith_frame announce_harmless]

/-! ### Load sharing -/

@[simp] theorem State.startDwell_frame (s : State) :
    s.onlySc (s.startDwell) := by
  unfold State.onlySc
  simp only [State.startDwell]
  simp

@[simp] theorem State.setCondition_frame (s : State) (c : LoadCondition) :
    s.onlySc (s.setCondition c) := by
  unfold State.onlySc
  simp only [State.setCondition]
  (repeat' split) <;> simp

@[simp] theorem State.loseCondition_frame (s : State) :
    s.onlySc (s.loseCondition) := by
  unfold State.onlySc
  simp only [State.loseCondition]
  simp

@[simp] theorem State.judgeLoad_frame (s : State) :
    s.onlySc (s.judgeLoad) := by
  unfold State.onlySc
  simp only [State.judgeLoad]
  (repeat' split) <;> simp

@[simp] theorem State.formLoad_frame (s : State) :
    s.onlySc (s.formLoad) := by
  unfold State.onlySc
  simp only [State.formLoad]
  (repeat' split) <;> simp

@[simp] theorem State.dwellEnds_frame (s : State) :
    s.onlySc (s.dwellEnds) := by
  unfold State.onlySc
  simp only [State.dwellEnds]
  (repeat' split) <;> simp

@[simp] theorem State.decayStep_frame (s : State) :
    s.onlySc (s.decayStep) := by
  unfold State.onlySc
  simp only [State.decayStep]
  simp

/-! ### Firing -/

@[simp] theorem State.blockGroup_frame (g : Group) (s : State) :
    s.onlyFcPpRc (s.blockGroup g) := by
  unfold State.onlyFcPpRc
  simp only [State.blockGroup]
  (repeat' split) <;> simp

@[simp] theorem State.startGroup_frame (g : Group) (s : State) :
    s.onlyFcPpRc (s.startGroup g) := by
  unfold State.onlyFcPpRc
  simp only [State.startGroup]
  simp

@[simp] theorem State.putCause_frame (m : BlockCause) (b : Bool) (g : Group) (s : State) :
    s.onlyFcPpRc (s.putCause m b g) := by
  unfold State.onlyFcPpRc
  simp only [State.putCause]
  (repeat' split) <;> simp

@[simp] theorem State.putCauses_frame (s : State) (m : BlockCause) (b : Bool) :
    s.onlyFcPpRc (s.putCauses m b) := by
  unfold State.onlyFcPpRc
  simp [State.putCauses, forGroups]

@[simp] theorem State.regulate_frame (g : Group) (k : Fin 6) (s : State) :
    s.onlyFcPpRc (s.regulate g k) := by
  unfold State.onlyFcPpRc
  simp only [State.regulate]
  (repeat' split) <;> simp

@[simp] theorem State.fireArmed_frame (g : Group) (a : Armed) (s : State) :
    s.onlyFcPpRc (s.fireArmed g a) := by
  unfold State.onlyFcPpRc
  simp only [State.fireArmed]
  simp

@[simp] theorem fireWithin_frame (n : Nat) (g : Group) (s : State) :
    s.onlyFcPpRc (fireWithin n g s) := by
  unfold State.onlyFcPpRc
  induction n generalizing s with
  | zero => simp [fireWithin]
  | succ n ih => simp only [fireWithin]; (repeat' split) <;> simp [ih]

@[simp] theorem State.fire_frame (g : Group) (s : State) :
    s.onlyFcPpRc (s.fire g) := by
  unfold State.onlyFcPpRc
  simp only [State.fire]
  simp

@[simp] theorem State.endPulse_frame (g : Group) (s : State) :
    s.onlyFc (s.endPulse g) := by
  unfold State.onlyFc
  simp only [State.endPulse]
  simp

@[simp] theorem State.judgePhase_frame (g : Group) (s : State) :
    s.onlyFcPpRc (s.judgePhase g) := by
  unfold State.onlyFcPpRc
  simp only [State.judgePhase]
  (repeat' split) <;> simp

@[simp] theorem State.phaseChanged_frame (s : State) :
    s.onlyFcPpRc (s.phaseChanged) := by
  unfold State.onlyFcPpRc
  simp [State.phaseChanged, forGroups]

@[simp] theorem State.judgeOvercurrent_frame (g : Group) (s : State) :
    s.onlyFcPpRc (s.judgeOvercurrent g) := by
  unfold State.onlyFcPpRc
  simp only [State.judgeOvercurrent]
  (repeat' split) <;> simp

@[simp] theorem State.resetFault_frame (s : State) (g : Group) :
    s.onlyFcPpRc ((s.resetFault g).1) := by
  unfold State.onlyFcPpRc
  simp only [State.resetFault]
  (repeat' split) <;> simp

@[simp] theorem State.setVset_frame (s : State) (x : Int) :
    s.onlyFc (s.setVset x) := by
  unfold State.onlyFc
  simp only [State.setVset]
  simp

@[simp] theorem State.enterStandby_frame (s : State) :
    s.onlyFcPpScRc (s.enterStandby) := by
  unfold State.onlyFcPpScRc
  simp only [State.enterStandby]
  simp

@[simp] theorem State.takeStandby_frame (s : State) :
    s.onlyFcPpScRc (s.takeStandby.1) := by
  unfold State.onlyFcPpScRc
  simp only [State.takeStandby]
  (repeat' split) <;> simp

@[simp] theorem State.wake_frame (s : State) (c : Cause) :
    s.onlyFcPpScRc (s.wake c) := by
  unfold State.onlyFcPpScRc
  simp only [State.wake]
  (repeat' split) <;> simp

@[simp] theorem State.watchBusbar_frame (s : State) :
    s.onlyFc (s.watchBusbar) := by
  unfold State.onlyFc
  simp only [State.watchBusbar]
  (repeat' split) <;> simp

@[simp] theorem State.judgeWake_frame (s : State) :
    s.onlyFcPpScRc (s.judgeWake) := by
  unfold State.onlyFcPpScRc
  simp only [State.judgeWake]
  (repeat' split) <;> simp

/-! ### Intertrips and records -/

@[simp] theorem State.sendToward_frame (s : State) (f : Feeder) (b : Payload) :
    s.onlyPpRc (s.sendToward f b) := by
  unfold State.onlyPpRc
  simp only [State.sendToward]
  (repeat' split) <;> simp

@[simp] theorem State.sendNotice_frame (s : State) (f : Feeder) (x : Byte) :
    s.onlyPpRc (s.sendNotice f x) := by
  unfold State.onlyPpRc
  simp only [State.sendNotice]
  simp

@[simp] theorem State.sendIntertrip_frame (s : State) (f : Feeder) (n : Nat) :
    s.onlyPpRc (s.sendIntertrip f n) := by
  unfold State.onlyPpRc
  simp only [State.sendIntertrip]
  simp

@[simp] theorem State.judgeConfirmation_frame (f : Feeder) (s : State) :
    s.onlySc (s.judgeConfirmation f) := by
  unfold State.onlySc
  simp only [State.judgeConfirmation]
  (repeat' split) <;> simp

@[simp] theorem State.startIntertrip_frame (s : State) (f : Feeder) (c : Cause) :
    s.onlyPpScRc (s.startIntertrip f c) := by
  unfold State.onlyPpScRc
  simp only [State.startIntertrip]
  (repeat' split) <;> simp

@[simp] theorem State.repeatIntertrip_frame (s : State) (f : Feeder) :
    s.onlyPpScRc (s.repeatIntertrip f) := by
  unfold State.onlyPpScRc
  simp only [State.repeatIntertrip]
  simp

@[simp] theorem State.confirmExpires_frame (s : State) (f : Feeder) :
    s.onlyPpScRc (s.confirmExpires f) := by
  unfold State.onlyPpScRc
  simp only [State.confirmExpires]
  (repeat' split) <;> simp

@[simp] theorem State.setCopy_frame (s : State) (f : Feeder) (x : FeederState) :
    s.onlyFp (s.setCopy f x) := by
  unfold State.onlyFp
  simp only [State.setCopy]
  (repeat' split) <;> simp

@[simp] theorem State.writeRecord_frame (s : State) (f : Feeder) (c : Cause) (o : Bool) (n : Option Byte) :
    s.onlyFp (s.writeRecord f c o n) := by
  unfold State.onlyFp
  simp only [State.writeRecord]
  (repeat' split) <;> simp

@[simp] theorem State.noteIntertrip_frame (s : State) (f : Feeder) :
    s.onlyFp (s.noteIntertrip f) := by
  unfold State.onlyFp
  simp only [State.noteIntertrip]
  simp

@[simp] theorem State.raiseTrip_frame (s : State) (f : Feeder) :
    s.onlyPpRc (s.raiseTrip f) := by
  unfold State.onlyPpRc
  simp only [State.raiseTrip]
  (repeat' split) <;> simp

/-! ### Feeders -/

@[simp] theorem State.setState_frame (s : State) (f : Feeder) (x : FeederState) :
    s.onlyFpFs (s.setState f x) := by
  unfold State.onlyFpFs
  simp only [State.setState]
  simp

@[simp] theorem State.judgeDead_frame (s : State) (f : Feeder) :
    s.onlyFs (s.judgeDead f) := by
  unfold State.onlyFs
  simp only [State.judgeDead]
  simp

@[simp] theorem State.enterLockout_frame (s : State) (f : Feeder) :
    s.onlyFpFsPpRc (s.enterLockout f) := by
  unfold State.onlyFpFsPpRc
  simp only [State.enterLockout]
  simp

@[simp] theorem State.enterOpen_frame (s : State) (f : Feeder) (n : Nat) :
    s.onlyFpFsPpRc (s.enterOpen f n) := by
  unfold State.onlyFpFsPpRc
  simp only [State.enterOpen]
  (repeat' split) <;> simp

@[simp] theorem State.intoTripped_frame (s : State) (f : Feeder) (r : Role) :
    s.onlyFpFs (s.intoTripped f r) := by
  unfold State.onlyFpFs
  simp only [State.intoTripped]
  (repeat' split) <;> simp

@[simp] theorem State.blockTripped_frame (s : State) (f : Feeder) :
    s.onlyFpFsPpRc (s.blockTripped f) := by
  unfold State.onlyFpFsPpRc
  simp only [State.blockTripped]
  (repeat' split) <;> simp

@[simp] theorem State.enterTripped_frame (s : State) (f : Feeder) (r : Role) :
    s.onlyFpFsPpRc (s.enterTripped f r) := by
  unfold State.onlyFpFsPpRc
  simp only [State.enterTripped]
  (repeat' split) <;> simp

@[simp] theorem State.driveTrip_frame (s : State) (f : Feeder) (c : Cause) :
    s.onlyFs (s.driveTrip f c) := by
  unfold State.onlyFs
  simp only [State.driveTrip]
  simp

@[simp] theorem State.tripStart_frame (s : State) (f : Feeder) (c : Cause) (o : Option Byte) :
    s.onlyFcFpFsPpScRc (s.tripStart f c o) := by
  unfold State.onlyFcFpFsPpScRc
  simp only [State.tripStart]
  (repeat' split) <;> simp

@[simp] theorem State.requestTrip_frame (s : State) (f : Feeder) (c : Cause) :
    s.onlyFcFpFsPpScRc (s.requestTrip f c) := by
  unfold State.onlyFcFpFsPpScRc
  simp only [State.requestTrip]
  (repeat' split) <;> simp

@[simp] theorem State.laneDecision_frame (s : State) (f : Feeder) :
    s.onlyFcFpFsPpScRc (s.laneDecision f) := by
  unfold State.onlyFcFpFsPpScRc
  simp only [State.laneDecision]
  (repeat' split) <;> simp

@[simp] theorem State.enterAfter_frame (s : State) (f : Feeder) :
    s.onlyFpFsPpRc (s.enterAfter f) := by
  unfold State.onlyFpFsPpRc
  simp only [State.enterAfter]
  (repeat' split) <;> simp

@[simp] theorem State.completeTrip_frame (s : State) (f : Feeder) :
    s.onlyFpFsPpRc (s.completeTrip f) := by
  unfold State.onlyFpFsPpRc
  simp only [State.completeTrip]
  simp

@[simp] theorem State.judgeTrip_frame (f : Feeder) (s : State) :
    s.onlyFpFsPpRc (s.judgeTrip f) := by
  unfold State.onlyFpFsPpRc
  simp only [State.judgeTrip]
  (repeat' split) <;> simp

@[simp] theorem State.failBreaker_frame (s : State) (f : Feeder) :
    s.onlyFcFpFsPpScRc (s.failBreaker f) := by
  unfold State.onlyFcFpFsPpScRc
  simp only [State.failBreaker]
  (repeat' split) <;> simp

@[simp] theorem State.topenEnds_frame (s : State) (f : Feeder) :
    s.onlyFcFpFsPpScRc (s.topenEnds f) := by
  unfold State.onlyFcFpFsPpScRc
  simp only [State.topenEnds]
  (repeat' split) <;> simp

@[simp] theorem State.failClose_frame (s : State) (f : Feeder) (d : Int) :
    s.onlyFpFsPpRc (s.failClose f d) := by
  unfold State.onlyFpFsPpRc
  simp only [State.failClose]
  (repeat' split) <;> simp

@[simp] theorem State.driveClose_frame (s : State) (f : Feeder) :
    s.onlyFcFpFsPpScRc (s.driveClose f) := by
  unfold State.onlyFcFpFsPpScRc
  simp only [State.driveClose]
  simp

@[simp] theorem State.askClose_frame (s : State) (f : Feeder) :
    s.onlyFcFpFsPpScRc (s.askClose f) := by
  unfold State.onlyFcFpFsPpScRc
  simp only [State.askClose]
  (repeat' split) <;> simp

@[simp] theorem State.reclose_frame (s : State) (f : Feeder) :
    s.onlyFcFpFsPpScRc (s.reclose f) := by
  unfold State.onlyFcFpFsPpScRc
  simp only [State.reclose]
  (repeat' split) <;> simp

@[simp] theorem State.dropClose_frame (s : State) (f : Feeder) :
    s.onlyFs (s.dropClose f) := by
  unfold State.onlyFs
  simp only [State.dropClose]
  (repeat' split) <;> simp

@[simp] theorem State.intoClosed_frame (s : State) (f : Feeder) :
    s.onlyFpFs (s.intoClosed f) := by
  unfold State.onlyFpFs
  simp only [State.intoClosed]
  simp

@[simp] theorem State.confirmClose_frame (s : State) (f : Feeder) :
    s.onlyFcFpFsPpScRc (s.confirmClose f) := by
  unfold State.onlyFcFpFsPpScRc
  simp only [State.confirmClose]
  simp

@[simp] theorem State.endTest_frame (s : State) (f : Feeder) :
    s.onlyFsPpRc (s.endTest f) := by
  unfold State.onlyFsPpRc
  simp only [State.endTest]
  (repeat' split) <;> simp

@[simp] theorem State.abandonHeld_frame (s : State) (f : Feeder) :
    s.onlyFpFsPpRc (s.abandonHeld f) := by
  unfold State.onlyFpFsPpRc
  simp only [State.abandonHeld]
  (repeat' split) <;> simp

@[simp] theorem State.directRelease_frame (s : State) (f : Feeder) :
    s.onlyFcFpFsPpScRc (s.directRelease f) := by
  unfold State.onlyFcFpFsPpScRc
  simp only [State.directRelease]
  (repeat' split) <;> simp

@[simp] theorem State.uncommandedClose_frame (s : State) (f : Feeder) :
    s.onlyFcFpFsPpScRc (s.uncommandedClose f) := by
  unfold State.onlyFcFpFsPpScRc
  simp only [State.uncommandedClose]
  (repeat' split) <;> simp

@[simp] theorem State.contactEdge_frame (s : State) (f : Feeder) :
    s.onlyFcFpFsPpScRc (s.contactEdge f) := by
  unfold State.onlyFcFpFsPpScRc
  simp only [State.contactEdge]
  (repeat' split) <;> simp

@[simp] theorem State.debounceContact_frame (s : State) (f : Feeder) :
    s.onlyFcFpFsPpScRc (s.debounceContact f) := by
  unfold State.onlyFcFpFsPpScRc
  simp only [State.debounceContact]
  (repeat' split) <;> simp

@[simp] theorem State.adopt_frame (f : Feeder) (s : State) :
    s.onlyFpFs (s.adopt f) := by
  unfold State.onlyFpFs
  simp only [State.adopt]
  (repeat' split) <;> simp

@[simp] theorem State.tripFound_frame (f : Feeder) (s : State) :
    s.onlyFcFpFsPpScRc (s.tripFound f) := by
  unfold State.onlyFcFpFsPpScRc
  simp only [State.tripFound]
  (repeat' split) <;> simp

@[simp] theorem State.judgeFollower_frame (f : Feeder) (s : State) :
    s.onlyFcFpFsPpScRc (s.judgeFollower f) := by
  unfold State.onlyFcFpFsPpScRc
  simp only [State.judgeFollower]
  (repeat' split) <;> simp

@[simp] theorem State.watchLive_frame (f : Feeder) (s : State) :
    s.onlyFs (s.watchLive f) := by
  unfold State.onlyFs
  simp only [State.watchLive]
  (repeat' split) <;> simp

@[simp] theorem State.liveElapses_frame (s : State) (f : Feeder) :
    s.onlyFcFpFsPpScRc (s.liveElapses f) := by
  unfold State.onlyFcFpFsPpScRc
  simp only [State.liveElapses]
  simp

@[simp] theorem State.followEnds_frame (s : State) (f : Feeder) :
    s.onlyFs (s.followEnds f) := by
  unfold State.onlyFs
  simp only [State.followEnds]
  simp

@[simp] theorem State.holdArises_frame (s : State) (f : Feeder) (m : HoldReason) :
    s.onlyFpFsPpRc (s.holdArises f m) := by
  unfold State.onlyFpFsPpRc
  simp only [State.holdArises]
  (repeat' split) <;> simp

@[simp] theorem State.holdCeases_frame (s : State) (f : Feeder) (m : HoldReason) :
    s.onlyFcFpFsPpScRc (s.holdCeases f m) := by
  unfold State.onlyFcFpFsPpScRc
  simp only [State.holdCeases]
  (repeat' split) <;> simp

@[simp] theorem State.setHold_frame (s : State) (f : Feeder) (m : HoldReason) (b : Bool) :
    s.onlyFcFpFsPpScRc (s.setHold f m b) := by
  unfold State.onlyFcFpFsPpScRc
  simp only [State.setHold]
  (repeat' split) <;> simp

@[simp] theorem State.judgeLaneHold_frame (f : Feeder) (s : State) :
    s.onlyFcFpFsPpScRc (s.judgeLaneHold f) := by
  unfold State.onlyFcFpFsPpScRc
  simp only [State.judgeLaneHold]
  simp

@[simp] theorem State.judgeSupply_frame (f : Feeder) (s : State) :
    s.onlyFcFpFsPpScRc (s.judgeSupply f) := by
  unfold State.onlyFcFpFsPpScRc
  simp only [State.judgeSupply]
  (repeat' split) <;> simp

@[simp] theorem State.beginTest_frame (s : State) (f : Feeder) :
    s.onlyFpFsPpRc (s.beginTest f) := by
  unfold State.onlyFpFsPpRc
  simp only [State.beginTest]
  (repeat' split) <;> simp

@[simp] theorem State.deadEnds_frame (s : State) (f : Feeder) :
    s.onlyFpFsPpRc (s.deadEnds f) := by
  unfold State.onlyFpFsPpRc
  simp only [State.deadEnds]
  (repeat' split) <;> simp

@[simp] theorem State.testFails_frame (s : State) (f : Feeder) (c : Cause) :
    s.onlyFpFsPpRc (s.testFails f c) := by
  unfold State.onlyFpFsPpRc
  simp only [State.testFails]
  (repeat' split) <;> simp

@[simp] theorem State.setStage_frame (s : State) (f : Feeder) (x : Stage) (n : Nat) :
    s.onlyFs (s.setStage f x n) := by
  unfold State.onlyFs
  simp only [State.setStage]
  (repeat' split) <;> simp

@[simp] theorem State.inject_frame (s : State) (f : Feeder) :
    s.onlyFs (s.inject f) := by
  unfold State.onlyFs
  simp only [State.inject]
  simp

@[simp] theorem State.precheck_frame (s : State) (f : Feeder) :
    s.onlyFcFpFsPpScRc (s.precheck f) := by
  unfold State.onlyFcFpFsPpScRc
  simp only [State.precheck]
  (repeat' split) <;> simp

@[simp] theorem State.endWindow_frame (s : State) (f : Feeder) :
    s.onlyFcFpFsPpScRc (s.endWindow f) := by
  unfold State.onlyFcFpFsPpScRc
  simp only [State.endWindow]
  (repeat' split) <;> simp

@[simp] theorem State.stageEnds_frame (s : State) (f : Feeder) (x : Stage) :
    s.onlyFcFpFsPpScRc (s.stageEnds f x) := by
  unfold State.onlyFcFpFsPpScRc
  simp only [State.stageEnds]
  (repeat' split) <;> simp

@[simp] theorem State.judgeAgreement_frame (f : Feeder) (s : State) :
    s.onlyFs (s.judgeAgreement f) := by
  unfold State.onlyFs
  simp only [State.judgeAgreement]
  (repeat' split) <;> simp

@[simp] theorem State.setNotice_frame (s : State) (f : Feeder) (n : Option NoticeRec) :
    s.onlyFcFpFsPpScRc (s.setNotice f n) := by
  unfold State.onlyFcFpFsPpScRc
  simp only [State.setNotice]
  simp

@[simp] theorem State.noticeStart_frame (s : State) (f : Feeder) (n : Byte) :
    s.onlyFcFpFsPpScRc (s.noticeStart f n) := by
  unfold State.onlyFcFpFsPpScRc
  simp only [State.noticeStart]
  (repeat' split) <;> simp

@[simp] theorem State.noticeEnd_frame (s : State) (f : Feeder) (n : Byte) :
    s.onlyFcFpFsPpScRc (s.noticeEnd f n) := by
  unfold State.onlyFcFpFsPpScRc
  simp only [State.noticeEnd]
  (repeat' split) <;> simp

@[simp] theorem State.takeNotice_frame (s : State) (n : Byte) (b : NoticeBody) :
    s.onlyFcFpFsPpScRc (s.takeNotice n b) := by
  unfold State.onlyFcFpFsPpScRc
  simp [State.takeNotice, forFeeders, State.ite_blocks]

@[simp] theorem State.takeIntertrip_frame (s : State) (f : Feeder) (n : Byte) :
    s.onlyFcFpFsPpScRc ((s.takeIntertrip f n).1) := by
  unfold State.onlyFcFpFsPpScRc
  simp only [State.takeIntertrip]
  (repeat' split) <;> simp

@[simp] theorem State.commandOpen_frame (s : State) (f : Feeder) :
    s.onlyFcFpFsPpScRc ((s.commandOpen f).1) := by
  unfold State.onlyFcFpFsPpScRc
  simp only [State.commandOpen]
  (repeat' split) <;> simp

@[simp] theorem State.commandClose_frame (s : State) (f : Feeder) :
    s.onlyFpFsPpRc ((s.commandClose f).1) := by
  unfold State.onlyFpFsPpRc
  simp only [State.commandClose]
  (repeat' split) <;> simp

@[simp] theorem State.commandBlock_frame (s : State) (f : Feeder) :
    s.onlyFpFsPpRc ((s.commandBlock f).1) := by
  unfold State.onlyFpFsPpRc
  simp only [State.commandBlock]
  (repeat' split) <;> simp

@[simp] theorem State.commandUnblock_frame (s : State) (f : Feeder) :
    s.onlyFs ((s.commandUnblock f).1) := by
  unfold State.onlyFs
  simp only [State.commandUnblock]
  (repeat' split) <;> simp

@[simp] theorem State.clearFailed_frame (s : State) (f : Feeder) :
    s.onlyFcFpFsPpRc (s.clearFailed f) := by
  unfold State.onlyFcFpFsPpRc
  simp only [State.clearFailed]
  (repeat' split) <;> simp

@[simp] theorem State.commandReset_frame (s : State) (f : Feeder) :
    s.onlyFcFpFsPpRc ((s.commandReset f).1) := by
  unfold State.onlyFcFpFsPpRc
  simp only [State.commandReset]
  (repeat' split) <;> simp

/-! ### Elements -/

@[simp] theorem State.setProt_frame (s : State) (f : Feeder) (r : ProtRec) :
    s.onlyFpFs (s.setProt f r) := by
  unfold State.onlyFpFs
  simp only [State.setProt]
  (repeat' split) <;> simp

@[simp] theorem State.takeDecision_frame (s : State) (f : Feeder) (c : Cause) (d : Int) :
    s.onlyFcFpFsPpScRc (s.takeDecision f c d) := by
  unfold State.onlyFcFpFsPpScRc
  simp only [State.takeDecision]
  (repeat' split) <;> simp

@[simp] theorem State.evaluateCurrent_frame (s : State) (f : Feeder) :
    s.onlyFcFpFsPpScRc (s.evaluateCurrent f) := by
  unfold State.onlyFcFpFsPpScRc
  simp only [State.evaluateCurrent]
  (repeat' split) <;> simp

@[simp] theorem State.trackPeak_frame (s : State) (f : Feeder) (b : Bool) :
    s.onlyFp (s.trackPeak f b) := by
  unfold State.onlyFp
  simp only [State.trackPeak]
  (repeat' split) <;> simp

@[simp] theorem State.protCurrent_frame (s : State) (f : Feeder) (b : Bool) :
    s.onlyFcFpFsPpScRc (s.protCurrent f b) := by
  unfold State.onlyFcFpFsPpScRc
  simp only [State.protCurrent]
  (repeat' split) <;> simp

@[simp] theorem State.watchLowv_frame (f : Feeder) (s : State) :
    s.onlyFp (s.watchLowv f) := by
  unfold State.onlyFp
  simp only [State.watchLowv]
  (repeat' split) <;> simp

@[simp] theorem State.rearmLowv_frame (f : Feeder) (s : State) :
    s.onlyFp (s.rearmLowv f) := by
  unfold State.onlyFp
  simp only [State.rearmLowv]
  (repeat' split) <;> simp

@[simp] theorem State.stopLowv_frame (f : Feeder) (s : State) :
    s.onlyFp (s.stopLowv f) := by
  unfold State.onlyFp
  simp only [State.stopLowv]
  simp

@[simp] theorem State.lowvDecides_frame (s : State) (f : Feeder) :
    s.onlyFcFpFsPpScRc (s.lowvDecides f) := by
  unfold State.onlyFcFpFsPpScRc
  simp only [State.lowvDecides]
  simp

@[simp] theorem State.currentLost_frame (s : State) (f : Feeder) :
    s.onlyFcFpFsPpScRc (s.currentLost f) := by
  unfold State.onlyFcFpFsPpScRc
  simp only [State.currentLost]
  simp

/-! ### Timebase -/

@[simp] theorem State.advance_frame (s : State) (n : Int) :
    s.onlySt (s.advance n) := by
  unfold State.onlySt
  simp only [State.advance]
  simp

@[simp] theorem State.choosePacing_frame (s : State) :
    s.onlySt (s.choosePacing) := by
  unfold State.onlySt
  simp only [State.choosePacing]
  (repeat' split) <;> simp

@[simp] theorem State.setActive_frame (s : State) (a : Option Source) :
    s.onlySt (s.setActive a) := by
  unfold State.onlySt
  simp only [State.setActive]
  simp

@[simp] theorem State.stepTick_frame (s : State) :
    s.onlySt (s.stepTick) := by
  unfold State.onlySt
  simp only [State.stepTick]
  simp

@[simp] theorem State.giveVamp_frame (s : State) (v : Int) :
    s.onlyStFcPpRc (s.giveVamp v) := by
  unfold State.onlyStFcPpRc
  simp only [State.giveVamp]
  (repeat' split) <;> simp

@[simp] theorem State.setTracker_frame (s : State) (t : Tracker) :
    s.onlyStFcPpRc (s.setTracker t) := by
  unfold State.onlyStFcPpRc
  simp only [State.setTracker]
  (repeat' split) <;> simp

@[simp] theorem State.enterSeek_frame (s : State) :
    s.onlyStFcPpRc (s.enterSeek) := by
  unfold State.onlyStFcPpRc
  simp only [State.enterSeek]
  simp

@[simp] theorem State.enterFault_frame (s : State) :
    s.onlyStFcPpRc (s.enterFault) := by
  unfold State.onlyStFcPpRc
  simp only [State.enterFault]
  simp

@[simp] theorem State.enterHoldover_frame (s : State) :
    s.onlyStFcPpRc (s.enterHoldover) := by
  unfold State.onlyStFcPpRc
  simp only [State.enterHoldover]
  simp

@[simp] theorem State.enterLocked_frame (s : State) (x : Source) :
    s.onlyStFcPpRc (s.enterLocked x) := by
  unfold State.onlyStFcPpRc
  simp only [State.enterLocked]
  simp

@[simp] theorem State.trackerLoses_frame (s : State) (x : Source) :
    s.onlyStFcPpRc (s.trackerLoses x) := by
  unfold State.onlyStFcPpRc
  simp only [State.trackerLoses]
  (repeat' split) <;> simp

@[simp] theorem State.trackerGains_frame (s : State) (x : Source) :
    s.onlySt (s.trackerGains x) := by
  unfold State.onlySt
  simp only [State.trackerGains]
  (repeat' split) <;> simp

@[simp] theorem State.squelch_frame (s : State) (x : Source) :
    s.onlyStFcPpRc (s.squelch x) := by
  unfold State.onlyStFcPpRc
  simp only [State.squelch]
  (repeat' split) <;> simp

@[simp] theorem State.unsquelch_frame (s : State) (x : Source) :
    s.onlySt (s.unsquelch x) := by
  unfold State.onlySt
  simp only [State.unsquelch]
  simp

@[simp] theorem State.watchEnds_frame (s : State) (x : Source) :
    s.onlyStFcPpRc (s.watchEnds x) := by
  unfold State.onlyStFcPpRc
  simp only [State.watchEnds]
  simp

@[simp] theorem State.sourceStale_frame (s : State) (x : Source) :
    s.onlyStFcPpRc (s.sourceStale x) := by
  unfold State.onlyStFcPpRc
  simp only [State.sourceStale]
  simp

@[simp] theorem State.crossAmplitude_frame (s : State) (x : Source) (v : Int) :
    s.onlyStFcPpRc (s.crossAmplitude x v) := by
  unfold State.onlyStFcPpRc
  simp only [State.crossAmplitude]
  (repeat' split) <;> simp

@[simp] theorem State.seekSucceeds_frame (s : State) (x : Source) (c : Crossing) (w : List Int) :
    s.onlyStFcPpRc (s.seekSucceeds x c w) := by
  unfold State.onlyStFcPpRc
  simp only [State.seekSucceeds]
  simp

@[simp] theorem State.seekCrossing_frame (s : State) (x : Source) (c : Crossing) :
    s.onlyStFcPpRc (s.seekCrossing x c) := by
  unfold State.onlyStFcPpRc
  simp only [State.seekCrossing]
  (repeat' split) <;> simp

@[simp] theorem State.correctPhase_frame (s : State) (e : Int) :
    s.onlyStFcPpRc (s.correctPhase e) := by
  unfold State.onlyStFcPpRc
  simp only [State.correctPhase]
  (repeat' split) <;> simp

@[simp] theorem State.followCrossing_frame (s : State) (c : Crossing) (e : Int) :
    s.onlyStFcPpRc (s.followCrossing c e) := by
  unfold State.onlyStFcPpRc
  simp only [State.followCrossing]
  (repeat' split) <;> simp

@[simp] theorem State.holdoverCrossing_frame (s : State) (x : Source) (c : Crossing) :
    s.onlyStFcPpRc (s.holdoverCrossing x c) := by
  unfold State.onlyStFcPpRc
  simp only [State.holdoverCrossing]
  (repeat' split) <;> simp

@[simp] theorem State.trackCrossing_frame (s : State) (x : Source) (c : Crossing) :
    s.onlyStFcPpRc (s.trackCrossing x c) := by
  unfold State.onlyStFcPpRc
  simp only [State.trackCrossing]
  (repeat' split) <;> simp

@[simp] theorem State.keepSample_frame (s : State) (x : Source) (v : Int) :
    s.onlySt (s.keepSample x v) := by
  unfold State.onlySt
  simp only [State.keepSample]
  simp

@[simp] theorem State.positiveCrossing_frame (s : State) (x : Source) (v : Int) :
    s.onlyStFcPpRc (s.positiveCrossing x v) := by
  unfold State.onlyStFcPpRc
  simp only [State.positiveCrossing]
  (repeat' split) <;> simp

@[simp] theorem State.negativeCrossing_frame (s : State) (x : Source) (v : Int) :
    s.onlyStFcPpRc (s.negativeCrossing x v) := by
  unfold State.onlyStFcPpRc
  simp only [State.negativeCrossing]
  simp

@[simp] theorem State.detect_frame (s : State) (x : Source) (v : Int) :
    s.onlyStFcPpRc (s.detect x v) := by
  unfold State.onlyStFcPpRc
  simp only [State.detect]
  (repeat' split) <;> simp

@[simp] theorem State.sourceArrival_frame (s : State) (x : Source) (a b : Bool) :
    s.onlyStFcPpRc (s.sourceArrival x a b) := by
  unfold State.onlyStFcPpRc
  simp only [State.sourceArrival]
  (repeat' split) <;> simp

@[simp] theorem State.sourceSilent_frame (s : State) (x : Source) :
    s.onlyStFcPpRc (s.sourceSilent x) := by
  unfold State.onlyStFcPpRc
  simp only [State.sourceSilent]
  (repeat' split) <;> simp

@[simp] theorem State.seekEnds_frame (s : State) :
    s.onlyStFcPpRc (s.seekEnds) := by
  unfold State.onlyStFcPpRc
  simp only [State.seekEnds]
  (repeat' split) <;> simp

/-! ### Lanes -/

@[simp] theorem State.takeArrival_frame (s : State) (l : Lane) (w : Word16) :
    s.onlyLi (s.takeArrival l w) := by
  unfold State.onlyLi
  simp only [State.takeArrival]
  (repeat' split) <;> simp

@[simp] theorem State.formIbus_frame (s : State) :
    s.onlyLiSc (s.formIbus) := by
  unfold State.onlyLiSc
  simp only [State.formIbus]
  simp

@[simp] theorem State.formDi_frame (s : State) (f : Feeder) (b : Bool) :
    s.onlyLi (s.formDi f b) := by
  unfold State.onlyLi
  simp only [State.formDi]
  simp

@[simp] theorem State.derive_frame (s : State) (l : Lane) (b : Bool) :
    s.onlyLiSc (s.derive l b) := by
  unfold State.onlyLiSc
  simp only [State.derive]
  (repeat' split) <;> simp

@[simp] theorem State.raiseStale_frame (s : State) (l : Lane) (d : Int) :
    s.onlyPpRc (s.raiseStale l d) := by
  unfold State.onlyPpRc
  simp only [State.raiseStale]
  (repeat' split) <;> simp

@[simp] theorem State.judgeMeasure_frame (g : Group) (s : State) :
    s.onlyFcPpRc (s.judgeMeasure g) := by
  unfold State.onlyFcPpRc
  simp only [State.judgeMeasure]
  simp

@[simp] theorem State.busbarHealth_frame (s : State) :
    s.onlyFcFpFsPpScRc (s.busbarHealth) := by
  unfold State.onlyFcFpFsPpScRc
  simp [State.busbarHealth, forFeeders, forGroups, State.ite_blocks]

@[simp] theorem State.currentHealth_frame (s : State) (f : Feeder) :
    s.onlyFcFpFsPpScRc (s.currentHealth f) := by
  unfold State.onlyFcFpFsPpScRc
  simp only [State.currentHealth]
  (repeat' split) <;> simp

@[simp] theorem State.lineHealth_frame (s : State) (f : Feeder) :
    s.onlyFcFpFsPpScRc (s.lineHealth f) := by
  unfold State.onlyFcFpFsPpScRc
  simp only [State.lineHealth]
  (repeat' split) <;> simp

@[simp] theorem State.groupHealth_frame (s : State) (g : Group) :
    s.onlyFcPpRc (s.groupHealth g) := by
  unfold State.onlyFcPpRc
  simp only [State.groupHealth]
  (repeat' split) <;> simp

@[simp] theorem State.sourceHealth_frame (s : State) (x : Source) :
    s.onlyStFcPpRc (s.sourceHealth x) := by
  unfold State.onlyStFcPpRc
  simp only [State.sourceHealth]
  (repeat' split) <;> simp

@[simp] theorem State.healthChanged_frame (s : State) (l : Lane) :
    s.onlyStFcFpFsPpScRc (s.healthChanged l) := by
  unfold State.onlyStFcFpFsPpScRc
  simp only [State.healthChanged]
  (repeat' split) <;> simp

@[simp] theorem State.handHealth_frame (s : State) (l : Lane) (h : Health) (d : Int) :
    s.onlyStFcFpFsPpScRc (s.handHealth l h d) := by
  unfold State.onlyStFcFpFsPpScRc
  simp only [State.handHealth]
  (repeat' split) <;> simp

@[simp] theorem State.busbarNotice_frame (s : State) :
    s.onlyFcFpFsPpScRc (s.busbarNotice) := by
  unfold State.onlyFcFpFsPpScRc
  dsimp only [State.busbarNotice]
  (repeat' split) <;> simp [forFeeders]

@[simp] theorem State.currentNotice_frame (s : State) (f : Feeder) (b : Bool) :
    s.onlyFcFpFsPpScRc (s.currentNotice f b) := by
  unfold State.onlyFcFpFsPpScRc
  simp only [State.currentNotice]
  simp

@[simp] theorem State.lineNotice_frame (s : State) (f : Feeder) :
    s.onlyFcFpFsPpScRc (s.lineNotice f) := by
  unfold State.onlyFcFpFsPpScRc
  simp only [State.lineNotice]
  (repeat' split) <;> simp

@[simp] theorem State.groupNotice_frame (s : State) (g : Group) :
    s.onlyFcPpRc (s.groupNotice g) := by
  unfold State.onlyFcPpRc
  simp only [State.groupNotice]
  (repeat' split) <;> simp

@[simp] theorem State.notice_frame (s : State) (l : Lane) (a b : Bool) :
    s.onlyStFcFpFsPpScRc (s.notice l a b) := by
  unfold State.onlyStFcFpFsPpScRc
  simp only [State.notice]
  (repeat' split) <;> simp

@[simp] theorem State.arrive_frame (s : State) (l : Lane) (w : Word16) :
    s.onlyLiStFcFpFsPpScRc (s.arrive l w) := by
  unfold State.onlyLiStFcFpFsPpScRc
  simp only [State.arrive]
  simp

@[simp] theorem State.silenceDerived_frame (s : State) (l : Lane) (h : Health) :
    s.onlyLiStFcPpScRc (s.silenceDerived l h) := by
  unfold State.onlyLiStFcPpScRc
  simp only [State.silenceDerived]
  (repeat' split) <;> simp

@[simp] theorem State.fallSilent_frame (s : State) (l : Lane) :
    s.onlyLiStFcFpFsPpScRc (s.fallSilent l) := by
  unfold State.onlyLiStFcFpFsPpScRc
  simp only [State.fallSilent]
  simp

/-! ### Coordination -/

@[simp] theorem State.modPeer_frame (s : State) (n : Byte) (g : PeerEntry → PeerEntry) :
    s.onlySc (s.modPeer n g) := by
  unfold State.onlySc
  simp only [State.modPeer]
  simp

@[simp] theorem State.ensurePeer_frame (s : State) (n : Byte) :
    s.onlySc (s.ensurePeer n) := by
  unfold State.onlySc
  simp only [State.ensurePeer]
  (repeat' split) <;> simp

@[simp] theorem State.peerChanged_frame (s : State) (n : Byte) :
    s.onlyFcFpFsPpScRc (s.peerChanged n) := by
  unfold State.onlyFcFpFsPpScRc
  simp [State.peerChanged, forFeeders, State.ite_blocks]

@[simp] theorem State.takeStatus_frame (s : State) (p : Port) (h : Header) (b : StatusBody) :
    s.onlyFcFpFsPpScRc (s.takeStatus p h b) := by
  unfold State.onlyFcFpFsPpScRc
  simp only [State.takeStatus]
  (repeat' split) <;> simp

@[simp] theorem State.peerStale_frame (s : State) (n : Byte) :
    s.onlyFcFpFsPpScRc (s.peerStale n) := by
  unfold State.onlyFcFpFsPpScRc
  simp only [State.peerStale]
  (repeat' split) <;> simp

@[simp] theorem State.removePeer_frame (s : State) (n : Byte) :
    s.onlySc (s.removePeer n) := by
  unfold State.onlySc
  simp only [State.removePeer]
  simp

@[simp] theorem State.pinPeers_frame (s : State) :
    s.onlySc (s.pinPeers) := by
  unfold State.onlySc
  simp only [State.pinPeers]
  simp

@[simp] theorem State.sendLocate_frame (s : State) (n : Byte) (c : Scope) :
    s.onlyPpRc (s.sendLocate n c) := by
  unfold State.onlyPpRc
  simp only [State.sendLocate]
  simp

@[simp] theorem State.setLocate_frame (s : State) (n : Byte) (x : LocateStage) (us : Nat) :
    s.onlySc (s.setLocate n x us) := by
  unfold State.onlySc
  simp only [State.setLocate]
  simp

@[simp] theorem State.locateEnds_frame (s : State) (e : PeerEntry) :
    s.onlyPpScRc (s.locateEnds e) := by
  unfold State.onlyPpScRc
  simp only [State.locateEnds]
  (repeat' split) <;> simp

@[simp] theorem State.reply_frame (s : State) (n : Byte) (c : Scope) :
    s.onlyPpRc (s.reply n c) := by
  unfold State.onlyPpRc
  simp only [State.reply]
  simp

@[simp] theorem State.takeLocate_frame (s : State) (h : Header) (b : LocateBody) :
    s.onlyPpRc (s.takeLocate h b) := by
  unfold State.onlyPpRc
  simp only [State.takeLocate]
  (repeat' split) <;> simp

@[simp] theorem State.actIntertrip_frame (s : State) (f : Feeder) (n : Byte) (a : Nat) :
    s.onlyFcFpFsPpScRc (s.actIntertrip f n a) := by
  unfold State.onlyFcFpFsPpScRc
  have h := State.takeIntertrip_frame s f n
  simp only [State.actIntertrip]
  split
  · simp
  · split <;> (next e => rw [e] at h; simp_all)

@[simp] theorem State.receiveIntertrip_frame (s : State) (h : Header) (b : IntertripBody) :
    s.onlyFcFpFsPpScRc (s.receiveIntertrip h b) := by
  unfold State.onlyFcFpFsPpScRc
  simp only [State.receiveIntertrip]
  (repeat' split) <;> simp

/-! ### Inputs and commands -/

@[simp] theorem State.roleEffects_frame (s : State) :
    s.onlyFcFpFsPpScRc (s.roleEffects) := by
  unfold State.onlyFcFpFsPpScRc
  simp [State.roleEffects, forFeeders, forGroups]

@[simp] theorem State.raiseInput_frame (s : State) (i : Input) (b : Bool) :
    s.onlyPpRc (s.raiseInput i b) := by
  unfold State.onlyPpRc
  simp only [State.raiseInput]
  (repeat' split) <;> simp

@[simp] theorem State.inputEdge_frame (s : State) (i : Input) (b : Bool) :
    s.onlyFcFpFsPpScRcIm (s.inputEdge i b) := by
  unfold State.onlyFcFpFsPpScRcIm
  simp only [State.inputEdge]
  (repeat' split) <;> simp

@[simp] theorem State.debounceInput_frame (s : State) (i : Input) :
    s.onlyFcFpFsPpScRcIm (s.debounceInput i) := by
  unfold State.onlyFcFpFsPpScRcIm
  simp only [State.debounceInput]
  (repeat' split) <;> simp

@[simp] theorem State.inputLevels_frame (s : State) :
    s.onlyIm (s.inputLevels) := by
  unfold State.onlyIm
  simp only [State.inputLevels]
  simp

@[simp] theorem State.report_frame (s : State) (e : Option Alarm) :
    s.onlyPpRc (s.report e) := by
  unfold State.onlyPpRc
  simp only [State.report]
  (repeat' split) <;> simp

@[simp] theorem State.commandAccept_frame (s : State) (n : Byte) :
    s.onlyPpRc ((s.commandAccept n).1) := by
  unfold State.onlyPpRc
  simp [State.commandAccept]

@[simp] theorem State.commandDone_frame (s : State) (n : Byte) :
    s.onlyPpRc ((s.commandDone n).1) := by
  unfold State.onlyPpRc
  simp [State.commandDone]

@[simp] theorem State.commandFloor_frame (s : State) (n : Word16) :
    s.onlyPpRc ((s.commandFloor n).1) := by
  unfold State.onlyPpRc
  simp only [State.commandFloor]
  simp

@[simp] theorem State.commandWake_frame (s : State) :
    s.onlyFcPpScRc (s.commandWake.1) := by
  unfold State.onlyFcPpScRc
  simp only [State.commandWake]
  simp

@[simp] theorem State.commandResetGroup_frame (s : State) (n : Byte) :
    s.onlyFcPpRc ((s.commandResetGroup n).1) := by
  unfold State.onlyFcPpRc
  simp only [State.commandResetGroup]
  (repeat' split) <;> simp

@[simp] theorem State.perform_frame (s : State) (k : Command) (b : CommandBody) :
    s.onlyFcFpFsPpScRcIm ((s.perform k b).1) := by
  unfold State.onlyFcFpFsPpScRcIm
  cases k <;> simp only [State.perform, State.forFeeder]
  all_goals first | simp | (split <;> simp)

@[simp] theorem State.setResult_frame (s : State) (o c : Byte) (r : CommandResult) :
    s.onlyRc (s.setResult o c r) := by
  unfold State.onlyRc
  simp only [State.setResult]
  simp

@[simp] theorem State.takeRestart_frame (s : State) (o c : Byte) :
    s.onlyPpRcCl (s.takeRestart o c) := by
  unfold State.onlyPpRcCl
  simp only [State.takeRestart]
  split <;> simp [State.originateWith_frame announce_harmless]

@[simp] theorem State.judgeCommand_frame (s : State) (o : Byte) (b : CommandBody) :
    s.onlyFcFpFsPpScRcImCl (s.judgeCommand o b) := by
  unfold State.onlyFcFpFsPpScRcImCl
  simp only [State.judgeCommand]
  split
  · simp
  · simp
  · next k _ _ =>
    have h := State.perform_frame s k b
    split
    · simp
    · split
      · simp
      · simp_all

@[simp] theorem State.takeCommand_frame (s : State) (h : Header) (b : CommandBody) :
    s.onlyFcFpFsPpScRcImCl (s.takeCommand h b) := by
  unfold State.onlyFcFpFsPpScRcImCl
  simp only [State.takeCommand]
  (repeat' split) <;> simp

/-! ### Receptions and ports -/

@[simp] theorem State.receiveBad_frame (s : State) (p : Port) :
    s.onlyPpRc (s.receiveBad p) := by
  unfold State.onlyPpRc
  simp only [State.receiveBad]
  (repeat' split) <;> simp

@[simp] theorem State.portHears_frame (s : State) (p : Port) :
    s.onlyPp (s.portHears p) := by
  unfold State.onlyPp
  simp only [State.portHears]
  simp

@[simp] theorem State.handOn_frame (s : State) (p : Port) (f : Frame) :
    s.onlyFcFpFsPpScRcImCl (s.handOn p f) := by
  unfold State.onlyFcFpFsPpScRcImCl
  simp only [State.handOn]
  (repeat' split) <;> simp

@[simp] theorem State.forward_frame (s : State) (p : Port) (f : Frame) :
    s.onlyPpRc (s.forward p f) := by
  unfold State.onlyPpRc
  simp only [State.forward]
  (repeat' split) <;> simp

@[simp] theorem State.processFrame_frame (s : State) (p : Port) (f : Frame) :
    s.onlyFcFpFsPpScRcImCl (s.processFrame p f) := by
  unfold State.onlyFcFpFsPpScRcImCl
  simp only [State.processFrame]
  (repeat' split) <;> simp

@[simp] theorem State.receiveGood_frame (s : State) (p : Port) (f : Frame) :
    s.onlyFcFpFsPpScRcImCl (s.receiveGood p f) := by
  unfold State.onlyFcFpFsPpScRcImCl
  simp only [State.receiveGood]
  (repeat' split) <;> simp

@[simp] theorem State.receiveFrame_frame (s : State) (p : Port) (f : Frame) :
    s.onlyFcFpFsPpScRcImCl (s.receiveFrame p f) := by
  unfold State.onlyFcFpFsPpScRcImCl
  simp only [State.receiveFrame]
  (repeat' split) <;> simp

@[simp] theorem State.receiveBytes_frame (s : State) (p : Port) (b : List Byte) :
    s.onlyFcFpFsPpScRcImCl (s.receiveBytes p b) := by
  unfold State.onlyFcFpFsPpScRcImCl
  simp only [State.receiveBytes]
  (repeat' split) <;> simp

@[simp] theorem State.receiveCommand_frame (s : State) (c : CommandOperands) (k : Byte) :
    s.onlyFcFpFsPpScRcImCl (s.receiveCommand c k) := by
  unfold State.onlyFcFpFsPpScRcImCl
  simp only [State.receiveCommand]
  simp

@[simp] theorem State.setBusy_frame (s : State) (p : Port) (b : Bool) :
    s.onlyPins (s.setBusy p b) := by
  unfold State.onlyPins
  simp only [State.setBusy]
  simp

@[simp] theorem State.becomesBusy_frame (s : State) (p : Port) :
    s.onlyPinsPp (s.becomesBusy p) := by
  unfold State.onlyPinsPp
  simp only [State.becomesBusy]
  simp

@[simp] theorem State.fallsIdle_frame (s : State) (p : Port) :
    s.onlyPinsPp (s.fallsIdle p) := by
  unfold State.onlyPinsPp
  simp only [State.fallsIdle]
  simp

@[simp] theorem State.beginSend_frame (s : State) (p : Port) :
    s.onlyPp (s.beginSend p) := by
  unfold State.onlyPp
  simp only [State.beginSend]
  (repeat' split) <;> simp

@[simp] theorem State.sendEnds_frame (s : State) (p : Port) :
    s.onlyPinsPp (s.sendEnds p) := by
  unfold State.onlyPinsPp
  simp only [State.sendEnds]
  simp

@[simp] theorem State.collide_frame (s : State) (p : Port) :
    s.onlyPinsPpRc (s.collide p) := by
  unfold State.onlyPinsPpRc
  simp only [State.collide]
  (repeat' split) <;> simp

@[simp] theorem State.backoffEnds_frame (s : State) (p : Port) :
    s.onlyPp (s.backoffEnds p) := by
  unfold State.onlyPp
  simp only [State.backoffEnds]
  simp

@[simp] theorem State.fallQuiet_frame (s : State) (p : Port) :
    s.onlyPpRc (s.fallQuiet p) := by
  unfold State.onlyPpRc
  simp only [State.fallQuiet]
  simp

@[simp] theorem State.periodicStatus_frame (s : State) :
    s.onlyPpRc (s.periodicStatus) := by
  unfold State.onlyPpRc
  simp only [State.periodicStatus]
  simp

@[simp] theorem State.dropListener_frame (s : State) (n : Byte) :
    s.onlyPp (s.dropListener n) := by
  unfold State.onlyPp
  simp only [State.dropListener]
  simp

end Sys2Proof.Machine
end

