-- ==== Sys2Proof/Laws/Reports.lean ====
section
/-! SUPPORT. What sending and raising keep: every origination and every alarm leaves a state that is the same but for
reports. -/

namespace Sys2Proof.Machine

theorem PortRec.sameReception_refl (r : PortRec) : r.sameReception r := by simp [PortRec.sameReception]

theorem PortRec.sameReception_trans {a b c : PortRec} (h : a.sameReception b) (k : b.sameReception c) :
    a.sameReception c := by
  simp_all [PortRec.sameReception]

namespace State

theorem SameButReports.refl (s : State) : s.SameButReports s :=
  ⟨by simp [onlyPpRc], ⟨rfl, rfl, fun _ => PortRec.sameReception_refl _, rfl, rfl⟩⟩

theorem SameButReports.trans {s t u : State} (h : s.SameButReports t) (k : t.SameButReports u) :
    s.SameButReports u := by
  obtain ⟨hb, h1, h2, h3, h4, h5⟩ := h
  obtain ⟨kb, k1, k2, k3, k4, k5⟩ := k
  refine ⟨?_, ⟨by rw [k1, h1], by rw [k2, h2], fun p => PortRec.sameReception_trans (h3 p) (k3 p), by rw [k4, h4],
    by rw [k5, h5]⟩⟩
  unfold onlyPpRc at *
  simp_all

end State

/-! ### Records of a port and of the alarm table -/

theorem State.access_reception (s : State) (p : Port) (c : FrameClass) (r : PortRec) :
    r.sameReception (s.access p c r) := by
  unfold State.access; split <;> simp [PortRec.sameReception]

theorem State.urgentTakesHand_reception (s : State) (p : Port) (r : PortRec) :
    r.sameReception (s.urgentTakesHand p r) := by
  unfold State.urgentTakesHand
  (repeat' split) <;>
    first
    | exact s.access_reception p .urgent r
    | exact s.access_reception p .urgent { r with attempts := 0 }
    | simp [PortRec.sameReception]

theorem PortRec.dropForwarded_reception {r r' : PortRec} (h : r.dropForwarded = some r') : r.sameReception r' := by
  simp only [PortRec.dropForwarded, Option.ite_none_right_eq_some, Option.some.injEq] at h
  obtain ⟨-, rfl⟩ := h
  simp [PortRec.sameReception]

theorem State.putUrgent_reception (s : State) (p : Port) (q : QFrame) (r : PortRec) :
    r.sameReception (s.putUrgent p q r).1 := by
  unfold State.putUrgent
  split
  · exact s.urgentTakesHand_reception p { r with urgent := r.urgent ++ [q] }
  · split
    · split
      · next r' h =>
        exact PortRec.sameReception_trans (PortRec.dropForwarded_reception h)
          (s.urgentTakesHand_reception p { r'.countDrop with urgent := r'.urgent ++ [q] })
      · simp [PortRec.sameReception, PortRec.countDrop]
    · simp [PortRec.sameReception, PortRec.countDrop]

theorem State.putRoutine_reception (s : State) (p : Port) (q : QFrame) (r : PortRec) :
    r.sameReception (s.putRoutine p q r).1 := by
  simp only [State.putRoutine]
  (repeat' split) <;>
    first
    | exact s.access_reception p .routine { r with routine := r.routine ++ [q] }
    | simp [PortRec.sameReception, PortRec.countDrop]

@[simp] theorem Reports.present_keeps (r : Reports) :
    r.present.1.floor = r.floor ∧ r.present.1.lastResult = r.lastResult := by
  unfold Reports.present; split <;> simp

@[simp] theorem Reports.withdraw_keeps (r : Reports) :
    r.withdraw.floor = r.floor ∧ r.withdraw.lastResult = r.lastResult := by
  simp [Reports.withdraw]

@[simp] theorem Reports.judge_keeps (r : Reports) :
    r.judge.1.floor = r.floor ∧ r.judge.1.lastResult = r.lastResult := by
  simp only [Reports.judge]; (repeat' split) <;> simp

@[simp] theorem Reports.add_keeps (r : Reports) (a : Raise) (now : Nat) :
    (r.add a now).1.floor = r.floor ∧ (r.add a now).1.lastResult = r.lastResult := by
  unfold Reports.add; (repeat' split) <;> simp

@[simp] theorem Reports.raise_keeps (r : Reports) (a : Raise) (now : Nat) :
    (r.raise a now).1.floor = r.floor ∧ (r.raise a now).1.lastResult = r.lastResult := by
  unfold Reports.raise; split <;> simp

/-! ### Every way to send or to raise -/

/-- A way to announce changes of the presented alarm that leaves the same state but for reports. -/
def Reporting (an : Nat → State → State) : Prop := ∀ n (s : State), s.SameButReports (an n s)

theorem State.tabled_same (s : State) (a : Raise) : s.SameButReports (s.tabled a).1 :=
  ⟨by simp [State.onlyPpRc], ⟨rfl, rfl, fun _ => PortRec.sameReception_refl _, by simp [State.tabled],
    by simp [State.tabled]⟩⟩

/-- A port that keeps its reception and a table that keeps its floor and result leave the same state but for reports. -/
theorem State.sameButReports_modPort (s : State) (p : Port) (r : PortRec) (h : (s.port p).sameReception r) :
    s.SameButReports (s.modPort p fun _ => r) := by
  refine ⟨by simp [State.onlyPpRc], ⟨by simp [State.modPort], by simp [State.modPort], fun q => ?_, by simp, by simp⟩⟩
  by_cases e : q = p
  · subst e; simpa using h
  · simpa [e] using PortRec.sameReception_refl _

theorem State.enqueue_same (s : State) (p : Port) (q : QFrame) : s.SameButReports (s.enqueue p q).1 := by
  unfold State.enqueue
  split
  · exact .refl s
  · have mu := s.sameButReports_modPort p _ (s.putUrgent_reception p q (s.port p))
    have mr := s.sameButReports_modPort p _ (s.putRoutine_reception p q (s.port p))
    cases q.frame.payload.frameClass <;> dsimp only <;> split
    · exact mu.trans (State.tabled_same _ _)
    · exact mu
    · exact mr.trans (State.tabled_same _ _)
    · exact mr

theorem State.enqueueOn_same (s : State) (named : Port → Bool) (q : QFrame) :
    s.SameButReports (s.enqueueOn named q).1 := by
  have step (u : State) (p : Port) : u.SameButReports (if named p then u.enqueue p q else (u, 0)).1 := by
    split
    · exact u.enqueue_same p q
    · exact .refl u
  exact (step s 0).trans (step _ 1)

theorem State.originateWith_same {an : Nat → State → State} (h : Reporting an) (b : Payload) (c : Scope)
    (n : Port → Bool) (r : Bool) (s : State) : s.SameButReports (s.originateWith an b c n r) := by
  refine .trans (t := { s with pp := { s.pp with seq := s.pp.seq + 1, seen := _ } }) ⟨by simp [State.onlyPpRc], ?_⟩
    ((State.enqueueOn_same _ _ _).trans (h _ _))
  exact ⟨rfl, rfl, fun p => PortRec.sameReception_refl _, rfl, rfl⟩

theorem State.statusWith_same {an : Nat → State → State} (h : Reporting an) (s : State) :
    s.SameButReports (s.statusWith an) := by
  unfold State.statusWith
  split
  · exact .refl s
  · exact s.originateWith_same h _ _ _ _

theorem times_same {g : State → State} (h : ∀ s : State, s.SameButReports (g s)) (n : Nat) (s : State) :
    s.SameButReports (times n g s) := by
  induction n generalizing s with
  | zero => exact .refl s
  | succ n ih => exact (h s).trans (ih (g s))

theorem announceWithin_reporting (d : Nat) : Reporting (announceWithin d) := by
  induction d with
  | zero => exact fun _ s => .refl s
  | succ d ih => exact fun n s => times_same (State.statusWith_same ih) n s

theorem announce_reporting : Reporting State.announce := announceWithin_reporting 4

theorem State.announce_same (s : State) (n : Nat) : s.SameButReports (State.announce n s) := announce_reporting n s

theorem State.raise_same (s : State) (a : Raise) : s.SameButReports (s.raise a) :=
  (s.tabled_same a).trans (announce_reporting _ _)

theorem State.alarm_same (s : State) (k : AlarmKind) (o : AlarmObject) (c : Option Cause) (d : Int) :
    s.SameButReports (s.alarm k o c d) := s.raise_same _

theorem State.originate_same (s : State) (b : Payload) (c : Scope) (n : Port → Bool) :
    s.SameButReports (s.originate b c n) := s.originateWith_same announce_reporting b c n false

theorem State.status_same (s : State) : s.SameButReports s.status := s.statusWith_same announce_reporting

theorem State.sendToward_same (s : State) (f : Feeder) (b : Payload) : s.SameButReports (s.sendToward f b) := by
  unfold State.sendToward; split <;> exact s.originate_same _ _ _

theorem State.sendNotice_same (s : State) (f : Feeder) (n : Byte) : s.SameButReports (s.sendNotice f n) :=
  s.sendToward_same f _

theorem State.sendIntertrip_same (s : State) (f : Feeder) (n : Nat) : s.SameButReports (s.sendIntertrip f n) :=
  s.sendToward_same f _

theorem State.raiseTrip_same (s : State) (f : Feeder) : s.SameButReports (s.raiseTrip f) := by
  unfold State.raiseTrip
  split
  · exact s.alarm_same _ _ _ _
  · exact .refl s

theorem State.reply_same (s : State) (n : Byte) (c : Scope) : s.SameButReports (s.reply n c) := s.originate_same _ _ _

theorem State.sendLocate_same (s : State) (n : Byte) (c : Scope) : s.SameButReports (s.sendLocate n c) :=
  s.originate_same _ _ _

theorem State.report_same (s : State) (e : Option Alarm) : s.SameButReports (s.report e) := by
  unfold State.report
  split
  · exact s.originate_same _ _ _
  · exact .refl s

theorem State.raiseInput_same (s : State) (i : Input) (a : Bool) : s.SameButReports (s.raiseInput i a) := by
  unfold State.raiseInput
  dsimp only
  generalize (if a then (s.inputSet i).risingAlarm else (s.inputSet i).fallingAlarm) = b
  split
  · exact s.raise_same _
  · exact .refl s

theorem State.raiseStale_same (s : State) (l : Lane) (d : Int) : s.SameButReports (s.raiseStale l d) := by
  unfold State.raiseStale
  split
  · exact s.alarm_same _ _ _ _
  · exact .refl s

end Sys2Proof.Machine
end

