-- ==== Sys2Proof/WellFormed.lean ====
section
/-! DEFINITION. Which commands can stand at the part's inputs: the checks on the operands of each row. The meanings
themselves take any operands. -/

namespace Sys2Proof

open Machine

/-- A station number (00_scope.md, Units and ranges). -/
def stationNumber (n : Byte) : Bool := decide (1 ≤ n.toNat) && decide (n.toNat ≤ 250)

/-- The frame of a reception row passes the frame check (R135). -/
def receivable (h : Header) (b : Payload) : Bool := Frame.wellFormed { header := h, payload := b }

/-- The header and body of a COMMAND row pass the frame check (R135). -/
def CommandOperands.wellFormed (c : CommandOperands) : Bool := stationNumber c.header.origin

/-- The checks of a command, row by row. -/
def Instr.wellFormed : Instr → Bool
  | .reset _ => true
  | .imageReadComplete image => image.length == 347
  | .imageReadTimeout => true
  | .sampleArrival _ _ => true
  | .silenceTimerExpiry _ => true
  | .stepTimerExpiry => true
  | .crossingWatchExpiry _ => true
  | .seekTimerExpiry => true
  | .holdoverTimerExpiry => true
  | .retryTimerExpiry => true
  | .firing _ => true
  | .pulseEnd _ => true
  | .wakeTimerExpiry => true
  | .lowvTimerExpiry _ => true
  | .contactRawChange _ _ => true
  | .contactDebounceExpiry _ => true
  | .topenExpiry _ => true
  | .tcloseExpiry _ => true
  | .reclaimExpiry _ => true
  | .deadTimeExpiry _ => true
  | .noticeStageExpiry _ => true
  | .contactorStageExpiry _ => true
  | .firstHalfExpiry _ => true
  | .secondHalfExpiry _ => true
  | .liveTimerExpiry _ => true
  | .followTimerExpiry _ => true
  | .peerNoticeExpiry _ => true
  | .segmentBusy _ => true
  | .segmentIdle _ => true
  | .gapTimerExpiry _ => true
  | .frameSent _ => true
  | .collision _ => true
  | .backoffTimerExpiry _ => true
  | .quietTimerExpiry _ => true
  | .fragment _ bytes => decide (bytes.length < 7)
  | .badReception _ bytes => decide (parseReception bytes = .bad)
  | .statusReceived _ h b => receivable h (.status b)
  | .intertripReceived _ h b => receivable h (.intertrip b)
  | .testNoticeReceived _ h b => receivable h (.testNotice b)
  | .locateReceived _ h b => receivable h (.locate b)
  | .reportReceived _ h b => receivable h (.report b)
  | .statusTimerExpiry => true
  | .listenerExpiry station => stationNumber station
  | .staleTimerExpiry station => stationNumber station
  | .removalTimerExpiry station => stationNumber station
  | .locateTimerExpiry station => stationNumber station
  | .repeatTimerExpiry _ => true
  | .confirmTimerExpiry _ => true
  | .dwellTimerExpiry => true
  | .decayTimerExpiry => true
  | .openFeeder c => c.wellFormed
  | .closeFeeder c => c.wellFormed
  | .blockReclose c => c.wellFormed
  | .unblockReclose c => c.wellFormed
  | .resetFeeder c => c.wellFormed
  | .resetGroup c => c.wellFormed
  | .setVoltage c => c.wellFormed
  | .standby c => c.wellFormed
  | .wake c => c.wellFormed
  | .setFloor c => c.wellFormed
  | .acceptAlarm c => c.wellFormed
  | .alarmDone c => c.wellFormed
  | .clearInputFlags c => c.wellFormed
  | .clearOverflow c => c.wellFormed
  | .restart c => c.wellFormed
  | .unknownCommand c code => c.wellFormed && (Command.ofCode code).isNone
  | .restartTimerExpiry => true
  | .inputRawChange _ _ => true
  | .inputDebounceExpiry _ => true

end Sys2Proof
end

