-- ==== Sys2Proof/Tests/Slice0.lean ====
section
/-! SUPPORT. Tests: operands that the checks refuse, the manual's worked examples, one step at a time, and for each
obligation states and operands that meet its hypotheses. -/

namespace Sys2Proof.Tests

open Sys2Proof.Machine

-- One theorem after another, so that few threads stand waiting for the kernel at a time.
set_option Elab.async false

/-! ### Small states -/

/-- A header heard from a gateway, and one heard from the far station. -/
def fromGateway : Header := { scope := .segment, loopMark := false, hops := 7, origin := 200, seq := 0 }

def fromFar : Header := { fromGateway with origin := 14 }

/-- A command for station 12 with a feeder or group number, an argument and a tag. -/
def command (number : Byte) (arg : Word16) (tag : Byte) : CommandOperands :=
  { port := 0, header := fromGateway, target := 12, number, arg, tag }

def feederSettings : FeederSettings :=
  { FeederSettings.default with sectionId := 305, farStation := 14, liveLineAllowed := true }

def settings : Settings := { Settings.default with gateway1 := 200, feeders := .replicate 4 feederSettings }

/-- Station 12, running, 1 s after reset: no lane heard yet, both ports ACTIVE, and the input S0 just closed for its
debounce time. -/
def live : State :=
  { State.reset with
    clock := 1000000,
    pins := { Pins.reset with straps := 12, inputs := Pins.reset.inputs.set 0 true },
    pp :=
      { Pilot.reset with
        ports := .replicate 2 { State.reset.port 0 with state := .active, quietTimer := some 3000000 },
        statusTimer := some 1000000 },
    im := { inputs := InputMonitor.reset.inputs.set 0 { active := false, timer := some 1000000, changed := false } },
    cl :=
      { station := 12, mode := .running, settings := some settings, clampCount := 0, restartTimer := none,
        readTimer := none } }

/-- The same with other settings. -/
def liveWith (c : Settings) : State := { live with cl := { live.cl with settings := some c } }

/-- The same with every lane FRESH at a value. -/
def bright (value : Int) : State :=
  { live with
    li :=
      { live.li with
        lanes := .replicate 14 { value, health := .fresh, invalidRun := 0, goodRun := 8, silence := some 1000300 },
        primed := .replicate 4 true } }

/-- The state after a command that answers a next state. -/
def after (c : Instr) (s : State) : State :=
  match exec c s with
  | .next t => t
  | _ => s

/-- A STATUS body of a peer with one feeder record. -/
def peerStatus (flags g1 : Byte) (state : Byte) : StatusBody :=
  { vb := 7500, load := 40, g1, g2 := 1, flags, tracker := 2, feeders := [⟨1, 305, state, 1⟩], pending := 0,
    mostUrgent := 255, inputFlags := 0, reserved := 0, presented := none, result := none, replyTo := none }

/-- The pinned entry of the far station, FRESH with a body. -/
def farEntry (b : StatusBody) : PeerEntry :=
  { station := 14, pinned := true, reach := some (.direct 0), health := .fresh, lastHeard := some 900,
    staleTimer := some 1000000, removalTimer := none, contents := some b, locate := .idle, locateTimer := none }

/-- With one peer. -/
def hearing (s : State) (e : PeerEntry) : State := { s with sc := { s.sc with peers := [e] } }

/-- An own frame of feeder F1's section, waiting. -/
def waitingFrame (p : Payload) : QFrame :=
  { frame := { header := { fromGateway with origin := 12 }, payload := p }, own := true, queuedAt := 995,
    restart := false }

def intertripBody (age : Word16) : IntertripBody :=
  { target := 12, feeder := 1, sectionId := 305, cause := 1, index := 0, age }

def reportBody : ReportBody :=
  { tag := 1, kind := 2, objectClass := 1, objectIndex := 1, priority := 1, hasCause := false, hasDetail := false,
    reserved := 0, cause := 0, first := 0, last := 0, count := 1, detail := 0, state := 2, record := none }

def alarm (k : AlarmKind) (o : AlarmObject) (priority : Nat) (state : AlarmState) (tag : Option Byte) : Alarm :=
  { kind := k, object := o, priority, cause := none, first := 5, last := 5, count := 1, detail := none, state, tag }

/-! ### When a frame is taken, as a decision -/

def takes (s : State) (p : Port) (f : Frame) : Bool :=
  (s.port p).receives && f.wellFormed && (f.header.scope != .network || !decide ((f.header.origin, f.header.seq) ∈ s.pp.seen)) &&
    f.header.origin != s.cl.station

theorem takes_iff (s : State) (p : Port) (f : Frame) : s.takesFrame p f ↔ takes s p f = true := by
  unfold State.takesFrame takes
  by_cases h : f.header.scope = .network <;> simp [h, and_assoc]

def takesFrom (s : State) (c : CommandOperands) (code : Byte) : Bool :=
  takes s c.port (commandFrame c code) && c.target == s.cl.station && s.isGateway c.header.origin && s.running

theorem takesFrom_iff (s : State) (c : CommandOperands) (code : Byte) :
    s.takesCommand c code ↔ takesFrom s c code = true := by
  simp [State.takesCommand, takesFrom, takes_iff, State.running, and_assoc]

def stays (s : State) (p : Port) (h : Header) : Bool :=
  !s.settings.junction || h.scope == .segment || h.hops == 0 || (s.port (other p)).state == .off

theorem stays_iff (s : State) (p : Port) (h : Header) : s.notForwarded p h ↔ stays s p h = true := by
  simp [State.notForwarded, stays, or_assoc]

/-! ### Operands that the checks refuse -/

theorem test_short_image_refused : (Instr.imageReadComplete (.replicate 346 0)).wellFormed = false := by
  decide +kernel

theorem test_long_fragment_refused : (Instr.fragment 0 (.replicate 7 0)).wellFormed = false := by decide +kernel

theorem test_good_frame_is_no_bad_reception :
    (Instr.badReception 0 (Frame.bytes { header := fromFar, payload := .locate { sought := 0 } })).wellFormed =
      false := by decide +kernel

/-- The origin of a frame is 1 to 250 (R135). -/
theorem test_origin_refused :
    (Instr.statusReceived 0 { fromFar with origin := 0 } (peerStatus 0 3 2)).wellFormed = false ∧
      (Instr.intertripReceived 0 { fromFar with origin := 251 } (intertripBody 0)).wellFormed = false ∧
      (Instr.testNoticeReceived 0 { fromFar with origin := 0 } ⟨305, 1, 1⟩).wellFormed = false ∧
      (Instr.locateReceived 0 { fromFar with origin := 255 } { sought := 12 }).wellFormed = false ∧
      (Instr.reportReceived 0 { fromFar with origin := 0 } reportBody).wellFormed = false ∧
      (Instr.wake { command 0 0 0 with header := { fromGateway with origin := 0 } }).wellFormed = false := by
  decide +kernel

/-- The body of a frame has at most 42 bytes: a STATUS of six feeder records and all options has 52 (R135). -/
theorem test_long_body_refused :
    (Instr.statusReceived 0 fromFar
        { peerStatus 0 3 2 with
          feeders := List.replicate 6 ⟨1, 305, 2, 1⟩, presented := some ⟨1, 1, 1, 1, 1⟩, result := some ⟨1, 1, 1⟩,
          replyTo := some 12 }).wellFormed =
      false := by decide +kernel

theorem test_station_numbers_refused :
    (Instr.listenerExpiry 0).wellFormed = false ∧ (Instr.staleTimerExpiry 251).wellFormed = false ∧
      (Instr.removalTimerExpiry 0).wellFormed = false ∧ (Instr.locateTimerExpiry 255).wellFormed = false := by
  decide +kernel

/-- The row of an unknown code takes no code of section 9.6. -/
theorem test_known_code_refused :
    (Instr.unknownCommand (command 0 0 0) 15).wellFormed = false ∧
      (Instr.unknownCommand (command 0 0 0) 16).wellFormed = true := by decide +kernel

/-! ### Worked examples of the manual -/

/-- The scaling table of section 1.2, and its saturated cases. -/
theorem test_scaling :
    scaleCode ⟨24001, 0⟩ 20480 = 7500 ∧ scaleCode ⟨24001, 0⟩ (-1) = -1 ∧ scaleCode ⟨40001, 0⟩ 16384 = 10000 ∧
      scaleCode ⟨40001, 0⟩ (-16384) = -10001 ∧ scaleCode ⟨65535, 100⟩ 32767 = 32767 ∧
      scaleCode ⟨65535, -100⟩ (-32767) = -32767 := by decide +kernel

/-- Section 1.7, from 500 us on: the third invalid sample in a row makes the lane STALE, and its value is held. -/
theorem test_third_invalid_sample :
    let s := (bright 1225).setLane 1
      { value := 1225, health := .fresh, invalidRun := 2, goodRun := 0, silence := some 1000300 }
    (after (.sampleArrival 1 0x8000) s).lane 1 =
      { value := 1225, health := .stale, invalidRun := 3, goodRun := 0, silence := some 1000300 } := by
  decide +kernel

/-- The crossing of section 2.8: f, Pmeas, e, P, Delta, the correction and the phase after it. -/
theorem test_crossing_in_locked :
    let r : SourceRec :=
      { State.reset.source 0 with
        squelched := false, prev := some (-412), sinceCrossing := some 200, fraction := 20000 }
    let c := r.crossing 1238
    let s : State :=
      { live with st := { live.st with tracker := .locked, active := some 0, period := 320000, phase := 20 * 65536 } }
    c.fraction = 16364 ∧ c.span = 1 ∧ c.period = some 319911 ∧ s.phaseError 0 c = -6 ∧
      (s.trackCrossing 0 c).st.period = 319988 ∧ phaseStep 319988 = 1179692 ∧
      (s.trackCrossing 0 c).st.phase = 18 * 65536 ∧ (s.trackCrossing 0 c).st.stepLoss = 0 := by decide +kernel

/-- The seek of section 2.8 at 35269: P, Delta and the phase. -/
theorem test_seek_succeeds :
    let s : State :=
      { live with
        st :=
          { live.st with
            tracker := .seek, active := some 0, window := [319980, 320040], failures := 3,
            sources := live.st.sources.set 0 { live.source 0 with squelched := false, amplitude := 5880 } } }
    let t := s.trackCrossing 0 { fraction := 40000, span := 1, period := some 320010 }
    t.st.tracker = .locked ∧ t.st.period = 320010 ∧ phaseStep t.st.period = 1179611 ∧ t.st.phase = 459633 ∧
      t.st.failures = 0 ∧ t.st.vamp = 5880 ∧ vd0Of t.st.vamp = 7935 := by decide +kernel

/-- The angles of R48. -/
theorem test_angles :
    alphaReg 4096 = 0 ∧ alphaReg 4095 = 13 ∧ alphaReg 3723 = 246 ∧ alphaReg 2896 = 450 ∧ alphaReg 2048 = 600 ∧
      alphaReg 1000 = 759 ∧ alphaReg 0 = 900 := by decide +kernel

/-- The first case of section 3.5: G2 fires arm 2 at 1752 with alpha 252, and the step arms arm 3. -/
def beforeStep : State :=
  let s := (bright 900).setLane 0
    { value := 7100, health := .fresh, invalidRun := 0, goodRun := 8, silence := some 1000300 }
  { s with
    li := { s.li with ibus := 1800 }, sc := { s.sc with trim := 30 },
    st := { s.st with tracker := .locked, active := some 0, vamp := 5880, phase := 1752 * 65536, lastStep := 1000000 },
    fc :=
      { s.fc with
        vset := some 7500, iacc := 1200,
        groups :=
          .replicate 2
            { s.group 0 with
              state := .running, causes := .empty, prevAlpha := 252,
              armed := some { arm := 1, theta := 1752, alpha := 252 } } } }

theorem test_regulation_step :
    let t := after (.firing 1) beforeStep
    beforeStep.voltageTarget = 7170 ∧ t.fc.iacc = 2320 ∧ beforeStep.command 1 = 7214 ∧
      t.group 1 =
        { beforeStep.group 1 with
          armed := some { arm := 2, theta := 2346, alpha := 246 }, pulse := some { arm := 1, endPhase := 1852 } } := by
  decide +kernel

/-- The second case of section 3.5, its steps a and d, with alpha_reg as given there. -/
theorem test_current_limit :
    let s := { beforeStep with st := { beforeStep.st with vamp := 5880 } }
    let high := (s.setLane 9 { s.lane 9 with value := 3120 }).modGroup 0 fun r => { r with prevAlpha := 246 }
    high.overLimit 0 = true ∧ high.regulated 0 ≤ 257 ∧ high.stepAlpha 0 = 257 ∧ high.newIacc 0 = high.fc.iacc ∧
      (s.modGroup 0 fun r => { r with prevAlpha := 279 }).stepAlpha 0 = 256 := by decide +kernel

/-- The filter charge of section 4.8: its first sample starts a rise, and its fifth ends it. -/
theorem test_filter_charge :
    let quiet := live.prot 1
    let rising := { quiet with ddlRising := true, ddlBase := 600, ddlT := 3, ddlPeak := 270, ddlLowRun := 2 }
    quiet.ddlStep feederSettings 780 180 =
        ({ quiet with ddlRising := true, ddlBase := 600, ddlPeak := 180 }, false) ∧
      rising.ddlStep feederSettings 750 (-20) =
        ({ rising with ddlRising := false, ddlT := 4, ddlLowRun := 3 }, false) := by decide +kernel

/-- The far-end fault of section 4.8: DDL decides at a total rise of DeltaTrip (sample 20). -/
theorem test_far_end_fault :
    let rising := { live.prot 1 with ddlRising := true, ddlBase := 900, ddlT := 18, ddlPeak := 1475 }
    rising.ddlStep feederSettings 2400 25 =
      ({ rising with ddlRising := false, ddlPicked := true, ddlT := 19, ddlPeak := 1500 }, true) := by
  decide +kernel

/-- The usual check value of the CRC of section 7.8, over the digits 1 to 9. It is not in the manual. -/
theorem test_crc : crc16 [0x31, 0x32, 0x33, 0x34, 0x35, 0x36, 0x37, 0x38, 0x39] = 0x29B1 := by decide +kernel

/-- The collision of section 7.9: the registers and the waits of stations 3 and 19. -/
theorem test_backoff :
    advanceBackoff 0x0303 = 0x0606 ∧ backoffWait 0x0606 1 = 0 ∧ advanceBackoff 0x1313 = 0x2627 ∧
      backoffWait 0x2627 1 = 20 := by decide +kernel

/-- The load-sharing register of station 21 in section 8.7. -/
theorem test_load_register : advanceLoad 0x1515 = 0x2A2A := by decide +kernel

/-- A LOCATE takes 32 us on the line and an INTERTRIP 60 (R127, section 7.9). -/
theorem test_times_on_the_line :
    4 * (Frame.bytes { header := fromFar, payload := .locate { sought := 0 } }).length = 32 ∧
      4 * (Frame.bytes { header := fromFar, payload := .intertrip (intertripBody 0) }).length = 60 := by
  decide +kernel

/-! ### The conditions of every step hold somewhere -/

theorem live_lanes : ∀ l, live.lane l = { value := 0, health := .stale, invalidRun := 0, goodRun := 0, silence := none } := by
  decide +kernel

theorem live_groups : ∀ g, live.group g = State.reset.group 0 := by decide +kernel

theorem live_feeders : ∀ f, live.feeder f = FeederRec.reset false ∧ live.prot f = State.reset.prot 0 := by
  decide +kernel

theorem live_ports : ∀ p, live.port p = { State.reset.port 0 with state := .active, quietTimer := some 3000000 } := by
  decide +kernel

theorem live_feedersOk : live.FeedersOk := by
  intro f
  obtain ⟨h, k⟩ := live_feeders f
  constructor
  · constructor <;> rw [h] <;> revert f <;> decide +kernel
  all_goals first | (rw [k, h]; decide +kernel) | (rw [h]; revert f; decide +kernel)

/-- A state that meets every condition that a step keeps, before a step that answers a next state: the hypotheses of the
six statements on what every step keeps. -/
theorem witness_Kept : live.Ok ∧ step live = .next live.idle := by
  refine ⟨⟨⟨?_, ?_⟩, ⟨?_, ?_, ?_⟩, ?_, ⟨?_, ?_, ?_, ?_, ?_⟩, live_feedersOk, ⟨?_, ?_, ?_⟩,
    ⟨?_, ?_, ?_, ?_, ?_, ?_, ?_⟩, ?_⟩, rfl⟩
  case refine_3 => intro l; constructor <;> rw [live_lanes] <;> decide +kernel
  case refine_6 => constructor <;> decide +kernel
  case refine_7 => intro g; constructor <;> rw [live_groups g] <;> revert g <;> decide +kernel
  case refine_12 => intro p; constructor <;> rw [live_ports p] <;> revert p <;> decide +kernel
  case refine_17 => intro e h; cases h
  case refine_18 => intro f; constructor <;> revert f <;> decide +kernel
  case refine_22 => constructor <;> first | exact List.Pairwise.nil | decide +kernel
  all_goals decide +kernel

/-! ### Witnesses: steps, reset and start-up -/

theorem witness_StepRunsFrontCommand :
    ({ live with pending := [.wakeTimerExpiry, .stepTimerExpiry] } : State).pending =
      .wakeTimerExpiry :: [.stepTimerExpiry] := rfl

theorem witness_ResetCommand :
    let s : State := { live with pins := { live.pins with contacts := #v[true, false, false, true] } }
    1 ≤ (1 : Byte).toNat ∧ (250 : Byte).toNat ≤ 250 ∧ (0 : Byte).toNat = 0 ∧ 250 < (251 : Byte).toNat ∧
      s.pins.contacts[(0 : Feeder)] = true ∧ s.pins.contacts[(1 : Feeder)] = false := by decide +kernel

/-- The bytes 0 to 344 of an image of station 12 with gateway 200, both ports and feeder F1 enabled, and every other
byte 0. -/
def imageParts : List (List Byte) :=
  [[1, 1, 91, 12, 200, 0, 3] ++ .replicate 53 0, .replicate 51 0 ++ [1], .replicate 60 0, .replicate 60 0,
    .replicate 60 0, .replicate 53 0]

/-- That image, with its CRC. -/
def goodImage : List Byte := imageParts.flatten ++ [162, 125]

theorem goodImage_crc : crc16 (goodImage.take 345) = 41597 := by
  have h : goodImage.take 345 = imageParts.flatten := by decide +kernel
  have h1 : ([1, 1, 91, 12, 200, 0, 3] ++ List.replicate 53 (0 : Byte)).foldl crcByte 65535 = 29230 := by decide +kernel
  have h2 : (List.replicate 51 (0 : Byte) ++ [1]).foldl crcByte 29230 = 7663 := by decide +kernel
  have h3 : (List.replicate 60 (0 : Byte)).foldl crcByte 7663 = 2002 := by decide +kernel
  have h4 : (List.replicate 60 (0 : Byte)).foldl crcByte 2002 = 35269 := by decide +kernel
  have h5 : (List.replicate 60 (0 : Byte)).foldl crcByte 35269 = 14930 := by decide +kernel
  have h6 : (List.replicate 53 (0 : Byte)).foldl crcByte 14930 = 41597 := by decide +kernel
  rw [h, crc16, List.foldl_flatten, imageParts]
  simp only [List.foldl_cons, List.foldl_nil, h1, h2, h3, h4, h5, h6]
  decide +kernel

theorem goodImage_accepted : checkImage goodImage 12 = .accepted := by
  unfold checkImage imageSound
  rw [goodImage_crc]
  decide +kernel

/-- The settings of one feeder in an image, each at the lower end of its range. -/
def leastFeeder : List Byte :=
  [1, 3, 232, 0, 5, 0, 1, 0, 200, 0, 10, 3, 232, 0, 20, 11, 184, 0, 20, 0, 50, 0, 10, 0, 1, 244, 0, 200, 64, 3, 232,
   0, 0, 19, 136, 0, 0, 19, 136, 0, 1, 14, 1]

/-- The bytes 0 to 344 of an image of station 12 with every setting at the lower end of its range. -/
def leastParts : List (List Byte) :=
  [[1, 1, 91, 12, 200, 0, 3] ++ (List.replicate 14 [0, 1, 0, 0]).flatten,
    [50, 7, 208, 1, 244, 0, 20, 1, 0, 0, 0, 1, 19, 136, 19, 136, 19, 136, 0, 0, 0, 0, 0, 0, 0, 50, 3, 132, 1, 244, 1,
      244, 3, 232, 3, 232, 0, 50, 19, 136, 0, 1, 0, 0, 0, 5, 1, 244],
    leastFeeder ++ leastFeeder, leastFeeder ++ leastFeeder,
    [1, 44] ++ (List.replicate 12 [0, 1, 0, 0, 0]).flatten]

/-- That image, with its CRC. -/
def leastImage : List Byte := leastParts.flatten ++ [98, 67]

/-- No setting of it is clamped. -/
theorem leastImage_accepted : checkImage leastImage 12 = .accepted ∧ clampCount leastImage = 0 := by
  have h : leastImage.take 345 = leastParts.flatten := by decide +kernel
  have h1 : (leastParts.getD 0 []).foldl crcByte 65535 = 52623 := by decide +kernel
  have h2 : (leastParts.getD 1 []).foldl crcByte 52623 = 19508 := by decide +kernel
  have h3 : (leastParts.getD 2 []).foldl crcByte 19508 = 27483 := by decide +kernel
  have h4 : (leastParts.getD 3 []).foldl crcByte 27483 = 44439 := by decide +kernel
  have h5 : (leastParts.getD 4 []).foldl crcByte 44439 = 25155 := by decide +kernel
  have hc : crc16 (leastImage.take 345) = 25155 := by
    rw [h, crc16, List.foldl_flatten]
    simp only [leastParts, List.getD_cons_zero, List.getD_cons_succ] at h1 h2 h3 h4 h5
    simp only [leastParts, List.foldl_cons, List.foldl_nil, h1, h2, h3, h4, h5]
    rfl
  refine ⟨?_, by decide +kernel⟩
  unfold checkImage imageSound
  rw [hc]
  decide +kernel

/-- Station 12 with the read of its image under way. -/
def reading : State := { State.reset with cl := { State.reset.cl with station := 12 } }

theorem witness_ImageAccepted :
    let found (fresh : Bool) : State :=
      (if fresh then { reading with li := (bright 0).li } else reading).modFeeder 0 fun r => { r with contact := true }
    let c := imageSettings goodImage
    reading.LoaderOk ∧ reading.TimebaseOk ∧ reading.cl.readTimer.isSome ∧
      checkImage goodImage reading.cl.station = .accepted ∧ clampCount goodImage ≠ 0 ∧ 347 ≤ goodImage.length ∧
      checkImage leastImage reading.cl.station = .accepted ∧ clampCount leastImage = 0 ∧ reading.rc.table = [] ∧
      c.feeders[(0 : Feeder)].enabled = true ∧ (reading.feeder 0).contact = false ∧
      (∀ b, ((found b).feeder 0).contact = true ∧ (found b).laneFresh (currentLane 0) = b) ∧
      c.feeders[(1 : Feeder)].enabled = false ∧ (reading.feeder 1).state = .opened := by
  refine ⟨⟨?_, ?_⟩, ?_, ?_, goodImage_accepted, ?_, ?_, leastImage_accepted.1, leastImage_accepted.2, ?_⟩
  case refine_3 => constructor <;> decide +kernel
  all_goals decide +kernel

theorem witness_ImageRejected :
    let s : State := { reading with clock := 500000 }
    s.cl.readTimer.isSome ∧ checkImage [2, 1, 91] s.cl.station = .bad ∧
      Timer.due s.cl.readTimer s.clock ∧
      (s.feeder 0).contact = false ∧ ((s.modFeeder 1 fun r => { r with contact := true }).feeder 1).contact := by
  decide +kernel

/-! ### Witnesses: lanes -/

theorem witness_SampleArrivalLane :
    (0x8001 : Word16) ≠ 32768 ∧ (0x8000 : Word16) = 32768 ∧
      Timer.due (({ bright 0 with clock := 1000300 } : State).lane 13).silence 1000300 ∧
      exec (.sampleArrival 13 5) live = .next (after (.sampleArrival 13 5) live) ∧
      exec (.silenceTimerExpiry 4) live = .next (after (.silenceTimerExpiry 4) live) := by
  refine ⟨?_, ?_, ?_, rfl, rfl⟩ <;> decide +kernel

/-- The lane table of section 1.1 at the ends of its rows. -/
theorem test_lane_table :
    laneUse 0 = .busbar ∧ laneUse 1 = .current 0 ∧ laneUse 4 = .current 3 ∧ laneUse 5 = .line 0 ∧
      laneUse 8 = .line 3 ∧ laneUse 9 = .group 0 ∧ laneUse 10 = .group 1 ∧ laneUse 11 = .source 0 ∧
      laneUse 13 = .source 2 := by decide +kernel

theorem witness_SampleScaling :
    (0x7FFF : Word16) ≠ 32768 ∧ (0x8001 : Word16) ≠ 32768 ∧ live.cl.settings = some settings ∧
      reading.cl.settings = none := by decide +kernel

/-- The state before and after an arrival on F1's current lane, with a protection record and a previous value. -/
def beforeArrival (p : ProtRec → ProtRec) (prev : Int) : State :=
  { bright 0 with li := { (bright 0).li with prev := .replicate 4 prev } }.modProt 0 p

def arrived (p : ProtRec → ProtRec) (prev : Int) (raw : Word16) : State :=
  after (.sampleArrival 1 raw) (beforeArrival p prev)

theorem witness_ElementsJudgeValidSamples :
    let s := beforeArrival id 0
    let lane (g : LaneRec → LaneRec) : State := s.setLane 1 (g (s.lane 1))
    let proving := lane fun r => { r with health := .stale, goodRun := 7 }
    let disabled := liveWith { settings with feeders := .replicate 4 { feederSettings with enabled := false } }
    s.cl.mode = .running ∧ s.feederEnabled 0 ∧ (4501 : Word16) ≠ 32768 ∧ (s.lane (currentLane 0)).provesFresh ∧
      (proving.lane (currentLane 0)).provesFresh ∧ (s.lane (currentLane 0)).health = .fresh ∧
      (s.feeder 0).state = .opened ∧ (s.prot 0).copy = .opened ∧ (2 : Lane) ≠ currentLane 0 ∧
      ((lane fun r => { r with invalidRun := 2 }).lane (currentLane 0)).nearStale ∧
      ¬((lane fun r => { r with invalidRun := 1 }).lane (currentLane 0)).nearStale ∧
      ¬(live.lane (currentLane 0)).provesFresh ∧ reading.cl.mode ≠ .running ∧ disabled.feederEnabled 0 = false := by
  unfold LaneRec.provesFresh LaneRec.nearStale
  decide +kernel

/-- IMAX at its boundaries: a valid sample below Imax, the first and the second at Imax, and a picked-up element at nine
tenths of it and below. -/
theorem witness_imax_clauses :
    (arrived id 0 4500).current 0 = 4499 ∧ (arrived id 0 4501).current 0 = 4500 ∧
      ((beforeArrival id 0).feederSet 0).imax = 4500 ∧ ((beforeArrival id 0).prot 0).imaxRun = 0 ∧
      ((beforeArrival id 0).prot 0).imaxPicked = false ∧
      ((arrived (fun r => { r with imaxRun := 1 }) 0 4501).prot 0).imaxPicked = true ∧
      ((arrived (fun r => { r with imaxPicked := true }) 0 4051).prot 0).imaxPicked = true ∧
      ((arrived (fun r => { r with imaxPicked := true }) 0 4050).prot 0).imaxPicked = false := by decide +kernel

/-- DDL at its boundaries: a step of Dstart from a base of 0, a step below it, one from a negative base, the total rise
at DeltaTrip and below it, and an element picked up. -/
theorem witness_ddl_clauses :
    let rising (r : ProtRec) : ProtRec := { r with ddlRising := true, ddlT := 4, ddlPeak := 100 }
    (arrived id 0 41).li.di[(0 : Feeder)] = 40 ∧ (arrived id 0 41).current 0 = 40 ∧
      (arrived id 0 40).li.di[(0 : Feeder)] = 39 ∧ (arrived id (-1) 41).li.di[(0 : Feeder)] = 41 ∧
      (arrived rising 1490 1501).current 0 = 1500 ∧ (arrived rising 1490 1500).current 0 = 1499 ∧
      (arrived rising 1490 1500).li.di[(0 : Feeder)] = 9 ∧ (arrived rising 1489 1500).li.di[(0 : Feeder)] = 10 ∧
      ((beforeArrival (fun r => { r with ddlPicked := true }) 0).prot 0).ddlPicked = true := by decide +kernel

/-- F1 CLOSED, its breaker too, with other settings. -/
def closed (c : FeederSettings) (p : ProtRec → ProtRec) : State :=
  let s : State := { bright 0 with cl := { live.cl with settings := some { settings with feeders := .replicate 4 c } } }
  (s.modFeeder 0 fun r =>
    { r with state := .closed, contact := true,
             holds := { supply := false, interlock := false, lane := false, peerTesting := false } }).modProt 0
    fun r => p { r with copy := .closed }

theorem witness_ImaxTrips :
    let s := closed feederSettings fun r => { r with imaxRun := 1 }
    let o := closed { feederSettings with observe := true } fun r => { r with imaxRun := 1 }
    s.cl.mode = .running ∧ s.feederEnabled 0 ∧ (4501 : Word16) ≠ 32768 ∧ (s.lane (currentLane 0)).health = .fresh ∧
      (s.prot 0).imaxPicked = false ∧ (s.prot 0).imaxRun = 1 ∧ (s.prot 0).copy = .closed ∧
      (s.feeder 0).state = .closed ∧ (s.feeder 0).contact = true ∧
      (s.feederSet 0).imax ≤ magnitude (s.scaled (currentLane 0) 4501) ∧ (s.feederSet 0).observe = false ∧
      (o.feederSet 0).imax ≤ magnitude (o.scaled (currentLane 0) 4501) ∧ (o.feederSet 0).observe = true := by
  decide +kernel

theorem witness_GroupOvercurrent :
    let s := bright 0
    let lane (g : LaneRec → LaneRec) : State := s.setLane 9 (g (s.lane 9))
    let fault := s.modGroup 0 fun r => { r with causes := r.causes.put .fault true }
    (∀ t ∈ [s, lane fun r => { r with health := .stale, goodRun := 7 }],
      (t.lane (groupLane 0)).provesFresh ∧ (t.group 0).state ≠ .off ∧ (t.group 0).causes.fault = false) ∧
      s.scaled (groupLane 0) 6000 < s.rect.igfault ∧ s.rect.igfault = s.scaled (groupLane 0) 6001 ∧
      (s.group 0).overRun = 0 ∧ ((s.modGroup 0 fun r => { r with overRun := 1 }).group 0).overRun ≠ 0 ∧
      ¬(s.lane (groupLane 0)).nearStale ∧ ((lane fun r => { r with invalidRun := 2 }).lane (groupLane 0)).nearStale ∧
      (fault.group 0).causes.fault = true ∧
      ((s.modGroup 0 fun r => { r with state := .off }).group 0).state = .off := by
  unfold LaneRec.provesFresh LaneRec.nearStale
  decide +kernel

/-! ### Witnesses: the timebase -/

/-- The tracker in a state, following VAB, with all its timers at now. -/
def tracking (k : Tracker) (failures : Nat) : State :=
  { live with
    st :=
      { live.st with
        tracker := k, active := some 0, failures, seekTimer := some 1000000, holdoverTimer := some 1000000,
        retryTimer := some 1000000, stepTimer := some 1000000,
        sources := .replicate 3 { live.source 0 with squelched := false, watch := some 1000000 } } }

theorem witness_TimebaseTimersExpire :
    let s := tracking .locked 0
    Timer.due (s.source 0).watch s.clock ∧ (s.source 0).squelched = false ∧ s.st.active = some 0 ∧
      s.st.tracker = .locked ∧ Timer.due (s.source 1).watch s.clock ∧ s.st.active ≠ some 1 ∧
      Timer.due (tracking .seek 3).st.seekTimer 1000000 ∧ (tracking .seek 3).st.tracker = .seek ∧
      (tracking .seek 3).st.failures + 1 < 5 ∧ 5 ≤ (tracking .seek 4).st.failures + 1 ∧
      Timer.due (tracking .holdover 0).st.holdoverTimer 1000000 ∧ Timer.due (tracking .fault 5).st.retryTimer 1000000 := by
  decide +kernel

/-- VAB before the crossing of section 2.8, with the tracker in a state. -/
def crossing (k : Tracker) (f : Timebase → Timebase) (r : SourceRec → SourceRec) : State :=
  let s := bright 0
  let source : SourceRec :=
    { s.source 0 with
      squelched := false, posArmed := true, negArmed := true, prev := some (-412), sinceCrossing := some 199,
      fraction := 20000, halfOpen := true, peak := 8300, counts := true }
  { s with
    st :=
      f { s.st with tracker := k, active := some 0, phase := 20 * 65536, sources := s.st.sources.set 0 (r source) } }

def crossed (k : Tracker) (f : Timebase → Timebase) (r : SourceRec → SourceRec) : Timebase :=
  (after (.sampleArrival 11 1239) (crossing k f r)).st

/-- A positive crossing, a negative one and no crossing; a half cycle that squelches the source and one that clears it. -/
theorem witness_CrossingsCloseHalfCycles :
    let s := crossing .locked id id
    let squelches := after (.sampleArrival 11 1239) (crossing .locked id fun r => { r with peak := 100, lowCount := 1 })
    let clears :=
      after (.sampleArrival 11 1239) (crossing .locked id fun r => { r with squelched := true, goodCount := 3 })
    let negative := after (.sampleArrival 11 (-1)) (crossing .locked id fun r => { r with prev := some 0 })
    (0 : Source) ∈ s.ranked ∧ (1239 : Word16) ≠ 32768 ∧ s.scaled (sourceLane 0) 1239 = 1238 ∧
      (s.source 0).halfOpen = true ∧ s.st.active = some 0 ∧ (squelches.source 0).squelched = true ∧
      (clears.source 0).squelched = false ∧ (negative.source 0).negArmed = false ∧
      (negative.source 0).posArmed = true ∧ ((after (.sampleArrival 11 (-413)) s).source 0).prev = some (-413) := by
  decide +kernel

theorem witness_CrossingsSteerTracker :
    let s := crossing .locked id id
    (s.source 0).prev = some (-412) ∧ (0 : Source) ∈ s.ranked ∧ (s.source 0).posArmed = true ∧
      0 ≤ s.scaled (sourceLane 0) 1239 ∧ (s.source 0).squelched = false ∧ s.st.active = some 0 ∧
      (s.source 0).lowCount = 0 := by decide +kernel

/-- Every way of SEEK: a period missing or bad, one that joins the window, three that agree and three that do not. -/
theorem witness_seek_clauses :
    (crossed .seek (fun r => { r with window := [320000] }) fun r => { r with sinceCrossing := none }).window = [] ∧
      (crossed .seek (fun r => { r with window := [320000] }) fun r => { r with sinceCrossing := some 100 }).window = [] ∧
      (crossed .seek (fun r => { r with window := [320000] }) id).window = [320000, 319911] ∧
      (crossed .seek (fun r => { r with window := [316000, 320000] }) id).window = [320000, 319911] ∧
      (crossed .seek (fun r => { r with window := [320000, 319000] }) id).tracker = .locked := by decide +kernel

/-- Every way of LOCKED and HOLDOVER: an error within 50 and above, its first and its third in a row, and a P out of its
range. -/
theorem witness_locked_clauses :
    let far (r : Timebase) : Timebase := { r with phase := 80 * 65536 }
    let slow (r : Timebase) : Timebase := { r with period := 246200, goodCrossings := 1 }
    let short (r : SourceRec) : SourceRec := { r with sinceCrossing := some 99 }
    (crossed .locked id id).period = 319988 ∧ (crossed .locked id id).phase = 18 * 65536 ∧
      (crossed .locked far id).stepLoss = 1 ∧
      (crossed .locked (fun r => far { r with stepLoss := 2 }) id).tracker = .seek ∧
      (crossed .locked slow short).tracker = .seek ∧ (crossed .holdover far id).tracker = .seek ∧
      (crossed .holdover id id).goodCrossings = 1 ∧
      (crossed .holdover (fun r => { r with goodCrossings := 1 }) id).tracker = .locked ∧
      (crossed .holdover slow short).tracker = .seek := by decide +kernel

/-! ### Witnesses: firing -/

theorem witness_PhaseTimersExpire :
    let s := beforeStep.modGroup 0 fun r => { r with pulse := some { arm := 0, endPhase := 1752 } }
    Timer.due (tracking .fault 5).st.stepTimer (tracking .fault 5).clock ∧
      (s.group 0).pulse = some { arm := 0, endPhase := 1752 } ∧ reached 1752 s.phi := by decide +kernel

/-- The firing of section 3.5 on time, and one taken 60 degrees late, which leaves the next one late too. -/
theorem witness_FiringMakesPulse :
    let late : State := { beforeStep with st := { beforeStep.st with phase := 2352 * 65536 } }
    let next (s : State) : Int :=
      let u := s.modGroup 1 fun r => { r with prevAlpha := 252 }
      lead ((naturalAngle 1 2 + u.stepAlpha 1) % 3600) s.phi
    (beforeStep.group 1).armed = some { arm := 1, theta := 1752, alpha := 252 } ∧ (beforeStep.group 1).state.fires ∧
      nextArm 1 = 2 ∧ reached 1752 beforeStep.phi ∧ next beforeStep < 3000 ∧
      (late.group 1).armed = some { arm := 1, theta := 1752, alpha := 252 } ∧ reached 1752 late.phi ∧
      3000 ≤ next late := by decide +kernel

/-- The late firing of that state is made at once, and the step after it is not late (R51). -/
theorem witness_late_firing_clause :
    let late : State := { beforeStep with st := { beforeStep.st with phase := 2352 * 65536 } }
    let u := late.modGroup 1 fun r => { r with prevAlpha := 252 }
    let v :=
      { late with fc := { late.fc with iacc := u.newIacc 1 } }.modGroup 1 fun r =>
        { r with prevAlpha := u.stepAlpha 1, state := u.stepState 1, limited := u.overLimit 1 }
    lead ((naturalAngle 1 (nextArm 2) + v.stepAlpha 1) % 3600) late.phi < 3000 := by decide +kernel

theorem witness_RegulationLimits :
    let s := (beforeStep.setLane 0 { beforeStep.lane 0 with value := 7000 }).modGroup 0 fun r =>
      { r with state := .starting, prevAlpha := 1500 }
    let high := beforeStep.setLane 9 { beforeStep.lane 9 with value := 3001 }
    live.rect.vmin ≤ live.rect.vmax ∧ live.li.ibus ≤ 0 ∧ 0 ≤ live.li.ibus ∧ 0 ≤ beforeStep.li.ibus ∧
      s.rect.alphaMin ≤ s.rect.alphaMax ∧ (s.group 0).prevAlpha ≤ s.rect.alphaMax ∧ s.stepState 0 = .starting ∧
      high.rect.ilim[(0 : Group)] < high.groupCurrent 0 ∧ beforeStep.st.vamp * 1382 / 1024 ≠ 0 ∧ (0 : Int) ≤ 4096 := by
  decide +kernel

/-- The five conditions that skip Iacc (R47), one state each, and the two ways out of STARTING (R50). -/
theorem witness_regulation_clauses :
    let b := beforeStep.modGroup 0 fun r => { r with state := .running }
    let target (v : Int) (s : State) : State := s.setLane 0 { s.lane 0 with value := v }
    let starting (alpha : Int) (s : State) : State := s.modGroup 0 fun r => { r with state := .starting, prevAlpha := alpha }
    b.newIacc 0 ≠ b.fc.iacc ∧
      (∀ s ∈
        [b.setLane 9 { b.lane 9 with value := 3001 }, b.modGroup 1 fun r => { r with limited := true },
          { b with fc := { b.fc with iacc := 256000 } },
          target 7500 { b with fc := { b.fc with iacc := -2560000 } }, starting 252 b],
        s.st.vamp * 1382 / 1024 ≠ 0 ∧ s.newIacc 0 = s.fc.iacc) ∧
      (starting 252 b).stepState 0 = .running ∧ (starting 1500 b).stepState 0 = .running ∧
      (starting 1500 (target 5000 b)).stepState 0 = .starting := by decide +kernel

/-- A station in standby whose wake timer has run out. -/
def asleep : State :=
  { live with
    fc :=
      { live.fc with
        standby := true, entryTime := some 500, wakeTimer := some 1000000,
        groups := .replicate 2 { live.group 0 with causes := CauseSet.empty.put .standby true } } }

theorem witness_StationWakes :
    Timer.due asleep.fc.wakeTimer asleep.clock ∧ asleep.fc.standby ∧ (asleep.group 0).state = .blocked ∧
      (asleep.group 0).causes.standby ∧ asleep.takesCommand (command 0 0 0) 9 ∧
      live.takesCommand (command 0 0 0) 9 ∧ live.fc.standby = false := by
  simp only [takesFrom_iff]
  decide +kernel

/-! ### Witnesses: feeders -/

theorem witness_LowvDecides :
    let p (r : ProtRec) : ProtRec := { r with lowvTimer := some 1000000 }
    let s := closed feederSettings p
    let o := closed { feederSettings with observe := true } p
    Timer.due (s.prot 0).lowvTimer s.clock ∧ (s.prot 0).copy = .closed ∧ (s.feeder 0).state = .closed ∧
      (s.feederSet 0).observe = false ∧ (o.feederSet 0).observe = true ∧ (o.prot 0).copy = .closed ∧
      (∀ st ∈ [FeederState.opened, .tripping, .tripped, .testing, .lockout, .failed],
        let u := (live.modProt 0 fun r => p { r with copy := st }).modFeeder 0 fun r => { r with state := st }
        Timer.due (u.prot 0).lowvTimer u.clock ∧ (u.prot 0).copy = (u.feeder 0).state ∧ (u.feeder 0).state = st) := by
  decide +kernel

/-- F1 in a state with its contact debounced to a level, and the other level standing for 5 ms. -/
def edge (st : FeederState) (contact : Bool) (g : FeederRec → FeederRec) : State :=
  let s : State := { bright 0 with pins := { live.pins with contacts := .replicate 4 (!contact) } }
  s.modFeeder 0 fun r => g { r with state := st, contact, contactTimer := some 1000000 }

theorem witness_ContactDebounceTakesEdge :
    (∀ st ∈ [FeederState.closing, .opened, .tripped, .lockout, .testing],
      let s := edge st false id
      Timer.due (s.feeder 0).contactTimer s.clock ∧ s.pins.contacts[(0 : Feeder)] = true ∧
        (s.feeder 0).contact = false ∧ s.feederEnabled 0 ∧ s.cl.mode = .running ∧ s.laneFresh (currentLane 0)) ∧
    (∀ n ∈ [1, 2],
      let s := edge .closed true fun r => { r with attempts := n }
      s.pins.contacts[(0 : Feeder)] = false ∧ (s.feeder 0).contact = true ∧ s.feederEnabled 0 ∧
        (s.feeder 0).state = .closed ∧ (s.feeder 0).blocked = false ∧ (s.feederSet 0).nmax = 2 ∧
        (s.feeder 0).attempts = n) ∧
    (let s := live.modFeeder 0 fun r => { r with contactTimer := some 1000000 }
     Timer.due (s.feeder 0).contactTimer s.clock ∧ s.pins.contacts[(0 : Feeder)] = (s.feeder 0).contact) := by
  decide +kernel

/-- F1 TRIPPING with its Topen timer run out. -/
def opening (contact : Bool) (after_ : AfterState) : State :=
  live.modFeeder 0 fun r =>
    { r with state := .tripping, op := .trip, contact, tripCoil := true, topen := some 1000000,
             after := some after_, role := some .leader, tripCause := some .imax }

theorem witness_TripsEnd :
    (∀ a ∈ [AfterState.tripped, .opened, .lockout],
      let s := opening false a
      Timer.due (s.feeder 0).topen s.clock ∧ (s.feeder 0).state = .tripping ∧ s.tripComplete 0 = true ∧
        (s.feeder 0).after = some a ∧ (s.feeder 0).role = some .leader ∧ (s.feeder 0).blocked = false) ∧
    (opening true .opened).tripComplete 0 = false ∧ ((opening true .opened).feederSet 0).farStation ≠ 0 ∧
    (((opening false .tripped).modFeeder 0 fun r => { r with blocked := true }).feeder 0).blocked = true := by
  decide +kernel

/-- An edge of the contact in TRIPPING, with the current out and flowing, and an arrival and a silence on the current
lane, with a current below Ioff and at it. -/
theorem witness_trip_completion_clauses :
    let e (contact : Bool) := edge .tripping contact id
    let flowing := (e true).setLane 1 { (e true).lane 1 with value := 50 }
    let s (contact : Bool) := (edge .tripping contact id).modProt 0 fun r => { r with copy := .tripping }
    (∀ b ∈ [true, false],
      Timer.due ((e b).feeder 0).contactTimer (e b).clock ∧ ((e b).feeder 0).state = .tripping ∧
        (e b).feederEnabled 0 = true ∧ (e b).pins.contacts[(0 : Feeder)] = !b ∧ ((e b).feeder 0).contact = b ∧
        ((s b).prot 0).copy = .tripping ∧ (s b).laneFresh (currentLane 0) = true ∧ ((s b).feeder 0).contact = b) ∧
      (e true).currentOut 0 = true ∧ flowing.currentOut 0 = false ∧
      (s false).scaled (currentLane 0) 50 < ((s false).feederSet 0).ioff ∧
      ((s false).feederSet 0).ioff = (s false).scaled (currentLane 0) 51 ∧
      Timer.due (({ s false with clock := 1000300 } : State).lane (currentLane 0)).silence 1000300 := by
  decide +kernel

/-- F1 CLOSING with its Tclose timer run out. -/
def closing (role : Role) (attempts : Nat) (blocked : Bool) : State :=
  live.modFeeder 0 fun r =>
    { r with state := .closing, op := .close, closeCoil := true, tclose := some 1000000, role := some role, attempts,
             blocked }

theorem witness_CloseFails :
    Timer.due ((closing .manual 0 false).feeder 0).tclose 1000000 ∧
      ((closing .manual 0 false).feeder 0).role = some .manual ∧
      ((closing .leader 2 false).feederSet 0).nmax ≤ ((closing .leader 2 false).feeder 0).attempts ∧
      ((closing .leader 1 false).feeder 0).attempts < ((closing .leader 1 false).feederSet 0).nmax ∧
      ((closing .leader 1 true).feeder 0).blocked = true ∧ ((closing .leader 1 true).feeder 0).state = .closing := by
  decide +kernel

/-- F1 TRIPPED with a role, no hold reason, all its timers run out, on lanes at a value. -/
def waiting (role : Role) (attempts : Nat) (value : Int) : State :=
  (bright value).modFeeder 0 fun r =>
    { r with state := .tripped, role := some role, attempts, dead := some 1000000, live := .running 1000000,
             holds := { supply := false, interlock := false, lane := false, peerTesting := false } }

theorem witness_TimersThatReclose :
    Timer.due ((waiting .leader 2 0).feeder 0).dead 1000000 ∧
      ((waiting .leader 2 0).feederSet 0).nmax ≤ ((waiting .leader 2 0).feeder 0).attempts ∧
      ((waiting .leader 1 0).feeder 0).attempts < ((waiting .leader 1 0).feederSet 0).nmax ∧
      (waiting .leader 1 0).lowerNotice 0 = false ∧ ((waiting .leader 1 0).feeder 0).holds.lane = false ∧
      ((waiting .follower 1 0).feeder 0).live = .running 1000000 ∧ (waiting .follower 1 0).clock = 1000000 ∧
      (waiting .follower 1 0).liveCloseAllowed 0 = false ∧
      (let s := hearing (waiting .follower 1 0) (farEntry (peerStatus 0 3 2))
       s.liveCloseAllowed 0 = true ∧ (s.feeder 0).holds.interlock = false ∧ (s.feeder 0).holds.lane = false ∧
         (s.feeder 0).blocked = false ∧ (s.feeder 0).attempts < (s.feederSet 0).nmax ∧ s.closeHeld 0 = false ∧
         s.laneFresh (currentLane 0)) := by decide +kernel

/-- The arrivals of L0 at Vsupply_min and below it and at Vwake and below it, on a CLOSED feeder, a disabled one, one
that no longer waits for the supply, and a test in its second half. -/
theorem witness_busbar_clauses :
    let s := closed feederSettings id
    let disabled := closed { feederSettings with enabled := false } id
    let other_ := s.setLane (lineLane 0) { s.lane (lineLane 0) with health := .stale }
    let half := (s.modFeeder 0 fun r =>
      { r with state := .testing, test := some { stage := .secondHalf, timer := 1000007, startSent := true, agreement := some true } })
    s.cl.mode = .running ∧ s.laneFresh 0 = true ∧ s.feederEnabled 0 = true ∧ s.laneFresh (lineLane 0) = true ∧
      (s.prot 0).copy = .closed ∧ (s.prot 0).lowvPicked = false ∧ other_.laneFresh (lineLane 0) = false ∧
      (s.feederSet 0).vsupplyMin = s.scaled 0 5001 ∧ s.scaled 0 5000 < (s.feederSet 0).vsupplyMin ∧
      (s.feeder 0).holds.supply = false ∧ ((waiting .leader 1 0).feeder 0).state = .tripped ∧
      ((waiting .leader 1 0).feeder 0).role = some .leader ∧ (half.feeder 0).test.isSome ∧
      disabled.feederEnabled 0 = false ∧ asleep.fc.standby = true ∧ asleep.rect.vwake = asleep.scaled 0 6201 ∧
      asleep.scaled 0 6200 < asleep.rect.vwake ∧ s.fc.standby = false := by decide +kernel

/-- The arrivals of a line-side lane at Vlow and below it, at the re-arm level and above it, and at Vlive and above it. -/
theorem witness_BusbarAndLineSamples :
    let s := (closed feederSettings id).setLane 0 { (bright 0).lane 0 with value := 5000 }
    let m := s.feederSet 0
    let v (raw : Word16) : Int := s.scaled (lineLane 0) raw
    s.cl.mode = .running ∧ s.feederEnabled 0 = true ∧ s.laneFresh (lineLane 0) = true ∧ s.laneFresh 0 = true ∧
      (s.prot 0).copy = .closed ∧ (s.prot 0).lowvPicked = false ∧ m.vlow = v 4001 ∧ v 4000 < m.vlow ∧
      m.vlow + m.vlow / 20 = v 4201 ∧ m.vlow + m.vlow / 20 < v 4202 ∧ m.vlive = v 3001 ∧ m.vlive < v 3002 ∧
      m.vsupplyMin ≤ s.vb ∧ ((waiting .follower 1 0).feeder 0).role = some .follower ∧
      ((waiting .follower 1 0).prot 0).copy ≠ .closed := by decide +kernel

/-- F1 in a stage of its line test, the stage's timer run out. -/
def testing (stage : Stage) (role : Role) (attempts : Nat) (agreement : Option Bool) (value : Int) : State :=
  (waiting role attempts value).modFeeder 0 fun r =>
    { r with state := .testing, dead := none, live := .stopped,
             test := some { stage, timer := 1000000, startSent := true, agreement } }

theorem witness_Precheck :
    let r : TestRec := { stage := .notice, timer := 1000000, startSent := true, agreement := none }
    let dead := testing .notice .leader 0 none 3000
    let lead_ := testing .notice .leader 0 none 3001
    let manual := testing .notice .manual 0 none 3001
    (dead.feeder 0).test = some r ∧ r.stage = .notice ∧ r.timer ≤ dead.clock ∧ dead.vl 0 ≤ (dead.feederSet 0).vlive ∧
      (∀ s ∈ [hearing lead_ (farEntry (peerStatus 0 3 2)), hearing manual (farEntry (peerStatus 0 3 2))],
        (s.feeder 0).test = some r ∧ (s.feederSet 0).vlive < s.vl 0 ∧ s.liveCloseAllowed 0 ∧
          (s.feeder 0).blocked = false ∧ (s.feeder 0).attempts < (s.feederSet 0).nmax ∧ s.closeHeld 0 = false ∧
          s.laneFresh (currentLane 0)) ∧
      (∀ s ∈ [lead_, manual],
        (s.feederSet 0).vlive < s.vl 0 ∧ s.liveCloseAllowed 0 = false ∧ (s.feeder 0).state = .testing ∧
          (s.feeder 0).attempts + 1 < (s.feederSet 0).nmax) := by decide +kernel

theorem witness_WindowEnds :
    let ok := testing .secondHalf .leader 1 (some true) 0
    let no0 := testing .secondHalf .leader 0 (some false) 0
    let no1 := testing .secondHalf .leader 1 (some false) 0
    (∀ s ∈ [ok, no0, no1],
      (s.feeder 0).role = some .leader ∧ (s.feeder 0).blocked = false ∧ s.closeHeld 0 = false ∧
        s.laneFresh (currentLane 0) ∧ s.clock = 1000000) ∧
      (ok.feeder 0).test = some { stage := .secondHalf, timer := 1000000, startSent := true, agreement := some true } ∧
      (ok.feeder 0).attempts < (ok.feederSet 0).nmax ∧ (no0.feeder 0).attempts + 1 < (no0.feederSet 0).nmax ∧
      (no1.feeder 0).attempts + 1 = (no1.feederSet 0).nmax := by decide +kernel

theorem witness_manual_window_clauses :
    let yes := testing .secondHalf .manual 1 (some true) 0
    let held := yes.modFeeder 0 fun r => { r with holds := { r.holds with interlock := true } }
    let no := testing .secondHalf .manual 1 (some false) 0
    (∀ s ∈ [yes, held, no],
      (s.feeder 0).role = some .manual ∧ (s.feeder 0).state = .testing ∧ s.laneFresh (currentLane 0) ∧
        s.clock = 1000000) ∧
      (yes.feeder 0).test = some { stage := .secondHalf, timer := 1000000, startSent := true, agreement := some true } ∧
      (no.feeder 0).test = some { stage := .secondHalf, timer := 1000000, startSent := true, agreement := some false } ∧
      yes.closeHeld 0 = false ∧ held.closeHeld 0 = true := by decide +kernel

theorem witness_FeederTimersOfOneRecord :
    let reclaiming := (closed feederSettings id).modFeeder 0 fun r => { r with reclaim := some 1000000, attempts := 1 }
    let following := (waiting .follower 1 0).modFeeder 0 fun r => { r with dead := none, follow := some 1000000 }
    let noticed := live.modFeeder 0 fun r => { r with notice := some { origin := 3, timer := 1000000 } }
    Timer.due (reclaiming.feeder 0).reclaim reclaiming.clock ∧ (reclaiming.feeder 0).state = .closed ∧
      ((testing .contactor .leader 0 none 0).feeder 0).test.isSome ∧
      ((testing .firstHalf .leader 0 none 0).feeder 0).test.isSome ∧
      Timer.due (following.feeder 0).follow following.clock ∧ (following.feeder 0).state = .tripped ∧
      (following.feeder 0).dead = none ∧ (noticed.feeder 0).notice = some { origin := 3, timer := 1000000 } := by
  decide +kernel

theorem witness_TripCoilHeldUntilOpen :
    let s := opening false .opened
    let t := after (.topenExpiry 0) s
    exec (.topenExpiry 0) s = .next t ∧ (s.feeder 0).tripCoil = true ∧ (t.feeder 0).tripCoil = false ∧
      mayReset (.topenExpiry 0) = false := by
  refine ⟨rfl, ?_⟩
  decide +kernel

/-- F1 at the end of the window of its line test on FRESH lanes, with agreement, in a state that meets every condition
that a step keeps. -/
def agreeing : State :=
  let s : State :=
    { live with
      li :=
        { live.li with
          lanes := Vector.ofFn fun l =>
            if l = 0 ∨ l = 1 ∨ l = 5 then (bright 0).lane l else live.lane l } }
  (s.modProt 0 fun r => { r with copy := .testing }).modFeeder 0 fun r =>
    { r with
      state := .testing, op := .testContactor, contactor := true, role := some .leader,
      holds := { supply := false, interlock := false, lane := false, peerTesting := false },
      test := some { stage := .secondHalf, timer := 1000000, startSent := true, agreement := some true } }

theorem agreeing_ok : agreeing.Ok := by
  refine ⟨⟨?_, ?_⟩, ⟨?_, ?_, ?_⟩, ?_, ⟨?_, ?_, ?_, ?_, ?_⟩, ?_, ⟨?_, ?_, ?_⟩, ⟨?_, ?_, ?_, ?_, ?_, ?_, ?_⟩, ?_⟩
  case refine_3 => intro l; constructor <;> revert l <;> decide +kernel
  case refine_6 => constructor <;> decide +kernel
  case refine_7 => intro g; constructor <;> revert g <;> decide +kernel
  case refine_12 =>
    intro f
    constructor
    · constructor <;> revert f <;> decide +kernel
    all_goals (revert f; decide +kernel)
  case refine_13 => intro p; constructor <;> revert p <;> decide +kernel
  case refine_18 => intro e h; cases h
  case refine_19 => intro f; constructor <;> revert f <;> decide +kernel
  case refine_23 => constructor <;> first | exact List.Pairwise.nil | decide +kernel
  all_goals decide +kernel

theorem witness_CloseCoilDrivenOnlyWhenAllowed :
    let t := after (.secondHalfExpiry 0) agreeing
    agreeing.Ok ∧ exec (.secondHalfExpiry 0) agreeing = .next t ∧ (agreeing.feeder 0).closeCoil = false ∧
      (t.feeder 0).closeCoil = true := by
  refine ⟨agreeing_ok, rfl, ?_⟩
  decide +kernel

/-! ### Witnesses: ports -/

/-- Port A in a transmit state with a frame of a class in hand, its timers run out. -/
def sending (tx : TxState) (k : FrameClass) (attempts : Nat) (urgent routine : List Payload) (busy : Bool) : State :=
  { live with pins := { live.pins with busy := live.pins.busy.set 0 busy } }.modPort 0 fun r =>
    { r with tx, hand := some k, attempts, urgent := urgent.map waitingFrame, routine := routine.map waitingFrame,
             gapTimer := some 1000000, backoffTimer := some 1000000, sendEnd := some 1000000, line := [0] }

theorem witness_FrameIsSent :
    let u := sending .gap .urgent 0 [.intertrip (intertripBody 65535)] [] false
    let r := sending .gap .routine 0 [] [.locate ⟨14⟩] false
    let e := fun us rs => sending .send .routine 3 us rs true
    Timer.due (u.port 0).gapTimer u.clock ∧ (u.port 0).tx = .gap ∧
      (u.port 0).inHand = some (waitingFrame (.intertrip (intertripBody 65535))) ∧
      (r.port 0).inHand = some (waitingFrame (.locate ⟨14⟩)) ∧
      (∀ us ∈ [[], [Payload.intertrip (intertripBody 0)]],
        let s := e us [.locate ⟨14⟩]
        Timer.due (s.port 0).sendEnd s.clock ∧ (s.port 0).tx = .send ∧ (s.port 0).hand = some .routine ∧
          s.cl.restartTimer = none) ∧
      ((after (.frameSent 0) (e [.intertrip (intertripBody 0)] [.locate ⟨14⟩])).port 0).urgent ≠ [] ∧
      ((after (.frameSent 0) (e [] [.locate ⟨14⟩, .locate ⟨0⟩])).port 0).routine ≠ [] ∧
      ((after (.frameSent 0) (e [] [.locate ⟨14⟩])).port 0).routine = [] := by decide +kernel

theorem witness_CollisionBacksOff :
    let urgent := [Payload.intertrip (intertripBody 0)]
    (∀ n ∈ [0, 14, 15],
      ∀ us ∈ [[], urgent],
        let s := sending .send .routine n us [.locate ⟨14⟩] true
        (s.port 0).tx = .send ∧ (s.port 0).hand = some .routine ∧ s.cl.restartTimer = none ∧
          ((s.port 0).urgent = [] ↔ us = []) ∧ (s.port 0).attempts = n ∧ (s.port 0).drops < 32767 ∧
          s.rc.table.length ≤ 24) ∧
      ((sending .send .urgent 15 urgent [.locate ⟨14⟩] true).port 0).hand = some .urgent ∧
      ((advanceBackoff (live.port 0).backoffReg).toNat % 2 ^ 1 * 20 = 0 ∧
        (advanceBackoff 0x1313).toNat % 2 ^ 1 * 20 ≠ 0) ∧
      ({ live with pp := { live.pp with statusTimer := none } } : State).pp.statusTimer = none := by decide +kernel

/-- The sender of F1 repeats toward a far station heard on port A, whose frame in hand stands in each transmit state. -/
theorem witness_urgent_takes_hand_clauses :
    let due (s : State) : State :=
      hearing (s.modSender 0 fun r => { r with state := .sending, nextIndex := 1, repeatTimer := some 1000000 })
        (farEntry (peerStatus 0 3 2))
    (∀ tx ∈ [TxState.defer, .gap, .backoff, .send],
      ∀ k ∈ [FrameClass.urgent, .routine],
        ∀ busy ∈ [true, false],
          let s := due (sending tx k 2 [] [.locate ⟨14⟩] busy)
          Timer.due (s.sender 0).repeatTimer s.clock ∧ (s.sender 0).state = .sending ∧ s.directPort 0 = some 0 ∧
            (s.port 0).urgent.length < 8 ∧ (s.port 0).tx = tx ∧ (s.port 0).hand = some k ∧
            s.pins.busy[(0 : Port)] = busy) ∧
      (due live).directPort 0 = some 0 ∧ ((due live).port 0).tx = .idle ∧
      Timer.due ((due live).sender 0).repeatTimer 1000000 := by decide +kernel

/-- Port A with so many routine frames waiting. -/
def queued (n : Nat) : State :=
  live.modPort 0 fun r => { r with routine := List.replicate n (waitingFrame (.locate ⟨14⟩)) }

theorem witness_PortTimersExpire :
    let l : Listener := { station := 14, timer := 1000000 }
    let s : State := { queued 15 with pp := { (queued 15).pp with listeners := [l, { l with station := 15 }] } }
    (∀ b ∈ [true, false],
      let s := sending .backoff .routine 1 [] [.locate ⟨14⟩] b
      Timer.due (s.port 0).backoffTimer s.clock ∧ (s.port 0).tx = .backoff ∧ (s.port 0).hand = some .routine ∧
        s.pins.busy[(0 : Port)] = b) ∧
      Timer.due (({ live with clock := 3000000 } : State).port 0).quietTimer 3000000 ∧
      Timer.due s.pp.statusTimer s.clock ∧ (∀ p, (s.port p).routine.length < 16) ∧ (s.port 0).state ≠ .off ∧
      (∀ q ∈ (s.port 0).waitingRoutine, q.ownStatus = false) ∧ l ∈ s.pp.listeners ∧ l.timer ≤ s.clock ∧
      (s.pp.listeners.map (·.station)).Nodup ∧ (State.reset.port 1).state = .off := by decide +kernel

/-- An own STATUS waits behind other frames, on a full queue too and behind the frame that is sent. -/
theorem witness_status_replaced_clauses :
    let b := peerStatus 0 3 2
    let old (c : Scope) : QFrame :=
      { waitingFrame (.status b) with frame := { header := { fromGateway with origin := 12, scope := c }, payload := .status b } }
    let full (n : Nat) (c : Scope) : State := (queued n).modPort 0 fun r => { r with routine := r.routine ++ [old c] }
    let sent := (sending .send .routine 1 [] [.locate ⟨14⟩] true).modPort 0 fun r =>
      { r with routine := r.routine ++ [old .segment] }
    let other := List.replicate 15 (waitingFrame (.locate ⟨14⟩))
    (∀ c ∈ [Scope.segment, .network],
      ((full 15 c).port 0).waitingRoutine = other ++ old c :: [] ∧ (old c).own = true ∧
        (old c).frame.payload = .status b ∧ (old c).frame.header.scope = c ∧
        (∀ p, ((full 15 c).port p).routine.length < 16 ∨ ∃ q ∈ ((full 15 c).port p).waitingRoutine, q.ownStatus = true) ∧
        Timer.due (full 15 c).pp.statusTimer (full 15 c).clock ∧ ((full 15 c).port 0).state ≠ .off) ∧
      (∀ q ∈ other, q.ownStatus = false) ∧ (sent.port 0).waitingRoutine = [] ++ old .segment :: [] ∧
      Timer.due sent.pp.statusTimer sent.clock ∧ (sent.port 0).tx = .send ∧ (sent.port 0).hand = some .routine := by
  decide +kernel

theorem witness_StatusShowsRecords :
    let e := alarm .peerLost (.peer 0) 5 .presented (some 1)
    let s : State := { live with rc := { live.rc with table := [e, alarm .laneStale (.lane 2) 3 .pending none] } }
    let failed : State := { live with cl := { live.cl with mode := .configFault } }
    decide (live.cl.mode = .configFault) = false ∧ decide (failed.cl.mode = .configFault) = true ∧
      (live.rc.table.filter fun e => e.state != .accepted) = [] ∧ live.rc.presented = none ∧
      s.rc.presented = some e ∧ e ∈ s.rc.table.filter (fun e => e.state != .accepted) ∧ e.priority ≤ 15 ∧
      alarm .laneStale (.lane 2) 3 .pending none ∈ s.rc.table.filter (fun e => e.state != .accepted) ∧
      (∀ x ∈ s.rc.table.filter (fun e => e.state != .accepted), 3 ≤ x.priority) := by decide +kernel

/-- R139: a STATUS that port A drops changes the presented alarm, and the one STATUS that waits on port B shows it. -/
theorem test_last_status_shows_the_drop :
    let t := after .statusTimerExpiry (queued 16)
    t.rc.presented.map (·.kind) = some .pilotCongestion ∧ (t.port 0).routine.length = 16 ∧
      (t.port 1).routine.map (·.frame.payload) = [.status (t.statusBody none)] := by decide +kernel

/-! ### Witnesses: receptions -/

theorem witness_OneBadByteIsCaught :
    let f : Frame := { header := fromFar, payload := .locate { sought := 12 } }
    f.wellFormed ∧ 0 < f.bytes.length ∧ 7 < f.bytes.length ∧ f.bytes[0]? ≠ some 5 ∧ f.bytes[7]? ≠ some 0 ∧
      parseReception f.bytes = .good f := by decide +kernel

theorem witness_ReceptionsOfAPort :
    let s (n : Nat) := live.modPort 0 fun r => { r with errorWindow := List.replicate n 0 }
    let f : Frame := { header := { fromFar with scope := .network }, payload := .locate { sought := 12 } }
    let seen : State := { live with pp := { live.pp with seen := [(14, 0)] } }
    (List.replicate 6 (0 : Byte)).length < 7 ∧ parseReception (List.replicate 7 0) = .bad ∧
      (∀ n ∈ [6, 7],
        ((s n).port 0).receives ∧
          (((s n).port 0).errorWindow.filter fun t => decide (elapsed t (s n).time ≤ 1000)).length = n) ∧
      f.wellFormed ∧ (live.port 0).receives ∧ live.cl.restartTimer = none ∧ (f.header.origin, f.header.seq) ∈ seen.pp.seen ∧
      (f.header.origin, f.header.seq) ∉ live.pp.seen ∧ ({ fromFar with origin := 12 } : Header).origin = live.cl.station ∧
      f.payload.kind ≠ 5 := by decide +kernel

theorem witness_TakenFramesAreForwarded :
    let h : Header := { fromFar with scope := .network }
    let junction := liveWith { settings with junction := true }
    let ring := liveWith { settings with junction := true, loopMark := true }
    (∀ f ∈ [Frame.mk h (.report reportBody), Frame.mk h (.intertrip (intertripBody 0)),
        Frame.mk { h with loopMark := true, hops := 1 } (.report reportBody)],
      mayReset (Frame.row 0 f) = false ∧ f.wellFormed ∧ f.header.scope = .network ∧ f.header.hops ≠ 0 ∧
        f.header.origin ≠ 12) ∧
      junction.settings.junction = true ∧ junction.settings.loopMark = false ∧ ring.settings.loopMark = true ∧
      (∀ s ∈ [junction, ring],
        s.takesFrame 0 { header := h, payload := .report reportBody } ∧ s.cl.settings.isSome ∧
          (s.port 1).state ≠ .off ∧ (s.port 1).routine.length < 16 ∧ (s.port 1).urgent.length < 8) ∧
      live.notForwarded 0 h := by
  simp only [takes_iff, stays_iff]
  decide +kernel

/-- An unpinned STALE entry of a station. -/
def stranger (n : Nat) : PeerEntry :=
  { farEntry (peerStatus 0 3 2) with
    station := BitVec.ofNat 8 (n + 20), pinned := false, health := .stale, staleTimer := none }

/-- The table full of unpinned entries. -/
def crowded : State := { live with sc := { live.sc with peers := (List.range 16).map stranger } }

theorem crowded_coordinatorOk : crowded.CoordinatorOk := by
  refine ⟨?_, ?_, ?_, ?_, ?_, ?_, ?_⟩
  case refine_3 =>
    intro e h
    obtain ⟨n, -, rfl⟩ := List.mem_map.mp h
    constructor <;> simp [stranger, farEntry]
  case refine_4 => intro f; constructor <;> revert f <;> decide +kernel
  all_goals decide +kernel

theorem witness_StatusUpdatesPeer :
    let b := peerStatus 0 3 2
    (∀ h ∈ [fromFar, { fromFar with hops := 6 }],
      ∀ e ∈ [farEntry b, { farEntry b with pinned := false }],
        let s := hearing live e
        s.takesFrame 0 { header := h, payload := .status b } ∧ s.cl.mode = .running ∧ s.peer h.origin = some e ∧
          s.notForwarded 0 h) ∧
      live.takesFrame 0 { header := fromFar, payload := .status b } ∧ live.peer 14 = none ∧
      live.sc.peers.length < 16 ∧ crowded.takesFrame 0 { header := fromFar, payload := .status b } ∧
      crowded.peer 14 = none ∧ crowded.sc.peers.length = 16 ∧ crowded.notForwarded 0 fromFar := by
  simp only [takes_iff, stays_iff]
  decide +kernel

theorem witness_IntertripTrips :
    (∀ n ∈ [1000, 1001],
      let age := BitVec.ofNat 16 n
      live.takesFrame 0 { header := fromFar, payload := .intertrip (intertripBody age) } ∧
        (intertripBody age).target = live.cl.station ∧ live.intertripFeeder fromFar (intertripBody age) = some 0) ∧
      live.cl.mode = .running ∧ live.notForwarded 0 fromFar ∧
      (∀ st ∈ [FeederState.closed, .closing, .testing, .opened, .tripping, .tripped, .lockout, .failed],
        let s := live.modFeeder 0 fun r => { r with state := st }
        (s.feeder 0).state = st ∧ (s.feeder 0).blocked = false ∧
          s.intertripFeeder fromFar (intertripBody 1000) = some 0) ∧
      (∀ b ∈ [{ intertripBody 0 with target := 13 }, { intertripBody 0 with feeder := 5 },
          { intertripBody 0 with sectionId := 306 }],
        live.takesFrame 0 { header := fromFar, payload := .intertrip b }) ∧
      feederOf 5 = none ∧ (∀ f, (live.feederSet f).sectionId ≠ 306) := by
  simp only [takes_iff, stays_iff]
  decide +kernel

theorem witness_NoticesAndLocates :
    let low : Header := { fromFar with origin := 11 }
    let noticed := live.modFeeder 0 fun r => { r with notice := some { origin := 11, timer := 5 } }
    (∀ n ∈ [1, 2],
      let phase := BitVec.ofNat 8 n
      live.takesFrame 0 { header := low, payload := .testNotice ⟨305, 1, phase⟩ } ∧
        noticed.takesFrame 0 { header := low, payload := .testNotice ⟨305, 1, phase⟩ }) ∧
      (live.feeder 0).notice = none ∧ low.origin.toNat < live.cl.station.toNat ∧ live.cl.mode = .running ∧
      live.notForwarded 0 low ∧ live.feederEnabled 0 ∧ (live.feederSet 0).sectionId = 305 ∧
      (noticed.feeder 0).notice = some { origin := low.origin, timer := 5 } ∧
      (∀ n ∈ [12, 0, 13],
        ∀ h ∈ [fromFar, { fromFar with scope := .network }],
          (queued 15).takesFrame 0 { header := h, payload := .locate ⟨BitVec.ofNat 8 n⟩ }) ∧
      (∀ p, ((queued 15).port p).routine.length < 16) ∧ (∀ x ∈ ((queued 15).port 0).routine, x.ownStatus = false) := by
  simp only [takes_iff, stays_iff]
  decide +kernel

/-! ### Witnesses: peers, intertrips and load sharing -/

theorem witness_PeerTimersExpire :
    let e := farEntry (peerStatus 0 3 2)
    let u := { stranger 0 with removalTimer := some 1000000 }
    (hearing live e).peer 14 = some e ∧ Timer.due e.staleTimer live.clock ∧ e.pinned = true ∧
      (hearing live { e with pinned := false }).peer 14 = some { e with pinned := false } ∧
      (hearing live u).peer 20 = some u ∧ Timer.due u.removalTimer live.clock ∧
      ((hearing live u).sc.peers.map (·.station)).Nodup ∧
      (∀ st ∈ [LocateStage.first, .second, .again],
        let l := { e with locate := st, locateTimer := some 1000000, lastHeard := none }
        (hearing (queued 15) l).peer 14 = some l ∧ Timer.due l.locateTimer live.clock ∧ l.locate ≠ .idle ∧
          l.lastHeard = none) ∧
      e.lastHeard.isSome ∧ (∀ p, ((hearing (queued 15) e).port p).routine.length < 16) := by decide +kernel

/-- The sender record of F1 in SENDING, its timers run out. -/
def repeating (n : Nat) (c : Confirmation) : State :=
  live.modSender 0 fun r =>
    { r with state := .sending, cause := some .imax, tripTime := some 900, nextIndex := n,
             repeatTimer := some 1000000, confirmation := some c, confirmTimer := some 1000000 }

theorem witness_IntertripSenderTimers :
    (∀ n ∈ [1, 8, 9],
      ∀ c ∈ [Confirmation.waiting, .confirmed],
        let s := repeating n c
        Timer.due (s.sender 0).repeatTimer s.clock ∧ (s.sender 0).state = .sending ∧ (s.sender 0).nextIndex = n ∧
          (s.sender 0).confirmation = some c) ∧
      (hearing (repeating 1 .waiting) (farEntry (peerStatus 0 3 2))).directPort 0 = some 0 ∧
      (repeating 1 .waiting).directPort 0 = none ∧ (∀ p, ((repeating 1 .waiting).port p).urgent.length < 8) ∧
      ((repeating 1 .waiting).port 1).state ≠ .off ∧
      Timer.due ((repeating 1 .waiting).sender 0).confirmTimer 1000000 := by decide +kernel

/-- Load sharing with a condition, a trim and both timers run out. -/
def sharing (c : LoadCondition) (trim : Int) (limited : Bool) : State :=
  { live with
    sc := { live.sc with condition := c, trim, dwellTimer := some 1000000, decayTimer := some 1000000 } }.modGroup 0
    fun r => { r with limited }

theorem witness_TrimMoves :
    (∀ c ∈ [LoadCondition.high, .low],
      Timer.due (sharing c 150 false).sc.dwellTimer 1000000 ∧ (sharing c 150 false).stepWithheld = false ∧
        (sharing c 150 false).sc.condition = c ∧ (sharing c 0 true).stepWithheld = true) ∧
      (∀ t ∈ [(10 : Int), -10, 9, -9],
        Timer.due (sharing .none t false).sc.decayTimer 1000000 ∧ (sharing .none t false).rect.tstep = 10 ∧
          (sharing .none t false).sc.trim = t) := by decide +kernel

/-! ### Witnesses: alarms -/

/-- A table of so many entries of priority 5, the first of them presented. -/
def tableOf (n : Nat) : Reports :=
  { Reports.reset with
    table :=
      (List.range n).map fun k =>
        alarm .peerLost (.peer (BitVec.ofNat 8 k)) 5 (if k = 0 then .presented else .pending)
          (if k = 0 then some 1 else none) }

theorem tableOf_ok : (tableOf 31).Ok ∧ (tableOf 32).Ok := by
  refine ⟨⟨?_, ?_, ?_, ?_, ?_, ?_, ?_, ?_⟩, ⟨?_, ?_, ?_, ?_, ?_, ?_, ?_, ?_⟩⟩
  case refine_2 => unfold Alarm.apart; decide +kernel
  case refine_10 => unfold Alarm.apart; decide +kernel
  case refine_8 =>
    have h : (tableOf 31).presented.all (fun e => (tableOf 31).displaced e == false) := by decide +kernel
    intro e he
    rw [he] at h
    simpa using h
  case refine_16 =>
    have h : (tableOf 32).presented.all (fun e => (tableOf 32).displaced e == false) := by decide +kernel
    intro e he
    rw [he] at h
    simpa using h
  all_goals decide +kernel

theorem witness_AlarmTableRules :
    let a (priority : Nat) : Raise :=
      { kind := .laneStale, object := .lane 0, priority, cause := none, detail := some 1 }
    let m : Raise := { kind := .peerLost, object := .peer 1, priority := 5, cause := none, detail := some 2 }
    let first := alarm .peerLost (.peer 0) 5 .presented (some 1)
    let e := alarm .peerLost (.peer 1) 5 .pending none
    let full := tableOf 32
    (tableOf 2).table = [first] ++ e :: [] ∧ (∀ x ∈ [first], m.merges x = false) ∧ m.merges e = true ∧
      (∀ x ∈ full.table, (a 4).merges x = false) ∧ (tableOf 31).table.length < 32 ∧ full.table.length = 32 ∧
      (∀ x ∈ full.table, x.state = .pending → x.priority ≤ (a 5).priority) ∧
      full.table = [first] ++ e :: full.table.drop 2 ∧ e.state = .pending ∧ (a 4).priority < e.priority ∧
      (∀ x ∈ full.table, x.state = .pending → x.priority ≤ e.priority) ∧
      (∀ x ∈ [first], x.state = .pending → x.priority < e.priority) := by decide +kernel

/-- The judgement with an accepted entry, with no entry below the floor and with one; and of a presented entry that
stays, one that a more urgent entry preempts, and one that the floor withdraws. -/
theorem witness_judge_clauses :
    let first := alarm .peerLost (.peer 0) 5 .presented (some 1)
    let e := alarm .peerLost (.peer 1) 5 .pending none
    let urgent := alarm .peerLost (.peer 2) 4 .pending none
    let of (table : List Alarm) (floor : Nat) : Reports := { Reports.reset with table, floor }
    (∃ x, (of [{ first with state := .accepted }] 16).slot = some x ∧ x.state = .accepted) ∧
      (of [e] 5).slot = none ∧ (of [e] 5).floor ≤ e.priority ∧ (of [e] 6).slot = none ∧
      e.priority < (of [e] 6).floor ∧
      (∀ floor ∈ [16, 5],
        ∀ x ∈ [e, urgent],
          let r := of [first, x] floor
          r.slot = some first ∧ r.table.filter (·.state != .pending) = [first]) ∧
      (∀ x ∈ [first, urgent], x.state = .pending → urgent.priority ≤ x.priority) ∧
      urgent.priority < first.priority := by
  refine ⟨⟨_, rfl, ?_⟩, ?_⟩ <;> decide +kernel

/-! ### Witnesses: commands of the gateway -/

/-- In CONFIG FAULT. -/
def faulted : State := { live with cl := { live.cl with mode := .configFault, settings := none } }

theorem witness_CommandsTurnedAway :
    let c := command 1 0 0
    (∀ k ∈ [Command.openFeeder, .restart],
      live.takesFrame 0 (commandFrame { c with target := 13 } k.code) ∧
        live.takesFrame 0 (commandFrame { c with header := { fromGateway with origin := 199 } } k.code)) ∧
      live.isGateway 199 = false ∧ live.cl.mode = .running ∧ live.cl.restartTimer = none ∧
      live.notForwarded 0 fromGateway ∧ faulted.takesFrame 0 (commandFrame c 1) ∧ faulted.cl.mode = .configFault ∧
      faulted.notForwarded 0 fromGateway ∧ Command.openFeeder.badNumber 1 = false ∧ Command.ofCode 0 = none ∧
      Command.ofCode 16 = none ∧ live.takesCommand c 0 ∧ live.takesCommand c 16 ∧ live.takesCommand (command 5 0 0) 1 ∧
      Command.openFeeder.badNumber 0 = true ∧ Command.openFeeder.badNumber 5 = true ∧
      Command.resetGroup.badNumber 3 = true := by
  simp only [takesFrom_iff, takes_iff, stays_iff]
  decide +kernel

theorem witness_OpenAndCloseCommands :
    let held (interlock lane : Bool) : State :=
      live.modFeeder 0 fun r =>
        { r with holds := { supply := false, interlock, lane, peerTesting := false } }
    (∀ st ∈ [FeederState.closed, .closing, .testing, .tripped, .lockout, .opened, .tripping, .failed],
      let s := live.modFeeder 0 fun r => { r with state := st }
      s.takesCommand (command 1 0 0) 1 ∧ s.feederEnabled 0 ∧ s.notForwarded 0 fromGateway ∧ (s.feeder 0).state = st) ∧
      (∀ s ∈ [held false false, held false true, held true false],
        s.takesCommand (command 1 0 0) 2 ∧ s.feederEnabled 0 ∧ s.notForwarded 0 fromGateway ∧
          (s.feeder 0).state = .opened ∧ s.lowerNotice 0 = false) ∧
      feederOf (command 1 0 0).number = some 0 ∧ ((held false true).feeder 0).holds.lane = true ∧
      ((held true false).feeder 0).holds.interlock = true ∧ ((closed feederSettings id).feeder 0).state ≠ .opened ∧
      (closed feederSettings id).takesCommand (command 1 0 0) 2 := by
  simp only [takesFrom_iff, stays_iff]
  decide +kernel

theorem witness_FeederFlagCommands :
    let disabled := liveWith { settings with feeders := .replicate 4 { feederSettings with enabled := false } }
    let failed := (opening false .opened).modFeeder 0 fun r => { r with state := .failed }
    let stuck := (opening true .opened).modFeeder 0 fun r => { r with state := .failed }
    feederOf (command 1 0 0).number = some 0 ∧ live.notForwarded 0 fromGateway ∧
      live.takesCommand (command 1 0 0) 3 ∧ live.takesCommand (command 1 0 0) 4 ∧ live.feederEnabled 0 ∧
      (live.feeder 0).state ≠ .tripped ∧ (waiting .leader 1 0).takesCommand (command 1 0 0) 3 ∧
      ((waiting .leader 1 0).feeder 0).state = .tripped ∧ disabled.takesCommand (command 1 0 0) 5 ∧
      disabled.feederEnabled 0 = false ∧
      (∀ s ∈ [live.modFeeder 0 fun r => { r with state := .lockout }, failed, stuck, live,
          failed.modFeeder 1 fun r => { r with state := .failed }],
        s.takesCommand (command 1 0 0) 5 ∧ s.feederEnabled 0 ∧ s.notForwarded 0 fromGateway) ∧
      failed.tripComplete 0 = true ∧ stuck.tripComplete 0 = false ∧ (stuck.feeder 0).state = .failed ∧
      (failed.feeder 1).state ≠ .failed := by
  simp only [takesFrom_iff, stays_iff]
  decide +kernel

theorem witness_GroupCommands :
    let fault := live.modGroup 1 fun r => { r with causes := r.causes.put .fault true }
    fault.takesCommand (command 2 0 0) 6 ∧ groupOf (command 2 0 0).number = some 1 ∧
      fault.notForwarded 0 fromGateway ∧ (fault.group 1).causes.fault = true ∧ (fault.group 1).state = .blocked ∧
      live.takesCommand (command 2 0 0) 6 ∧ (live.group 1).causes.fault = false ∧
      (∀ v ∈ [0, 5999, 6000, 8250, 8251, 65535], live.takesCommand (command 0 (BitVec.ofNat 16 v) 0) 7) := by
  simp only [takesFrom_iff, stays_iff]
  decide +kernel

theorem witness_StandbyCommand :
    let may := hearing live (farEntry (peerStatus 0 3 2))
    (∀ s ∈ [may, live, asleep], s.takesCommand (command 0 0 0) 8 ∧ s.notForwarded 0 fromGateway) ∧
      may.standbyAllowed = true ∧ may.fc.standby = false ∧ live.standbyAllowed = false ∧ live.fc.standby = false ∧
      asleep.fc.standby = true := by
  simp only [takesFrom_iff, stays_iff]
  decide +kernel

/-- With one alarm with the gateway. -/
def shown (st : AlarmState) : State :=
  { queued 14 with rc := { live.rc with table := [alarm .peerLost (.peer 0) 5 st (some 1)] } }

theorem shown_ok : (shown .presented).rc.Ok ∧ (shown .accepted).rc.Ok := by
  refine ⟨⟨?_, ?_, ?_, ?_, ?_, ?_, ?_, ?_⟩, ⟨?_, ?_, ?_, ?_, ?_, ?_, ?_, ?_⟩⟩
  case refine_2 => exact List.pairwise_singleton _ _
  case refine_10 => exact List.pairwise_singleton _ _
  case refine_8 =>
    intro e h
    cases (Option.some.inj h)
    decide +kernel
  case refine_16 => intro e h; cases h
  all_goals decide +kernel

theorem witness_AlarmCommands :
    let e := alarm .peerLost (.peer 0) 5
    (∀ v ∈ [0, 5, 16, 17], (shown .presented).takesCommand (command 0 (BitVec.ofNat 16 v) 0) 10) ∧
      (∀ st ∈ [AlarmState.presented, .accepted],
        ∀ n ∈ [1, 2],
          let tag := BitVec.ofNat 8 n
          let s := shown st
          s.takesCommand (command 0 0 tag) 11 ∧ s.takesCommand (command 0 0 tag) 12 ∧ s.rc.slot = some (e st (some 1)) ∧
            s.notForwarded 0 fromGateway ∧ s.cl.mode = .running) ∧
      (e .presented (some 1)).tag = some (command 0 0 1).tag ∧ (e .presented (some 1)).tag ≠ some (command 0 0 2).tag ∧
      (∀ p, ((shown .presented).port p).routine.length < 15) ∧ (∀ p, ((shown .accepted).port p).routine.length < 16) ∧
      (∀ x ∈ (shown .accepted).rc.table, x.state = .pending → (shown .accepted).rc.floor ≤ x.priority) := by
  simp only [takesFrom_iff, stays_iff]
  decide +kernel

/-- With an ACCEPTED entry and two that wait, the second of them the more urgent. -/
def waitingAlarms : State :=
  { live with
    rc :=
      { live.rc with
        table :=
          [alarm .peerLost (.peer 0) 5 .accepted (some 1), alarm .portQuiet (.port 0) 8 .pending none,
            alarm .laneStale (.lane 2) 3 .pending none] } }

theorem waitingAlarms_ok : waitingAlarms.rc.Ok := by
  refine ⟨?_, ?_, ?_, ?_, ?_, ?_, ?_, ?_⟩
  case refine_2 => simp [waitingAlarms, alarm, Alarm.apart]
  case refine_8 => intro e h; cases h
  all_goals decide +kernel

theorem witness_done_presents_clause :
    let x := alarm .laneStale (.lane 2) 3 .pending none
    waitingAlarms.rc.slot = some (alarm .peerLost (.peer 0) 5 .accepted (some 1)) ∧ x ∈ waitingAlarms.rc.table ∧
      x.state = .pending ∧ x.priority < waitingAlarms.rc.floor ∧
      (∀ y ∈ waitingAlarms.rc.table, y.state = .pending → x.priority ≤ y.priority) ∧
      (∀ p, (waitingAlarms.port p).routine.length < 16) ∧ waitingAlarms.takesCommand (command 0 0 1) 12 ∧
      waitingAlarms.notForwarded 0 fromGateway := by
  simp only [takesFrom_iff, stays_iff]
  decide +kernel

theorem witness_ClearCommands :
    (∀ n ∈ [0, 0x0801, 0xF000], live.takesCommand (command 0 (BitVec.ofNat 16 n) 0) 13) ∧
      live.takesCommand (command 0 0 0) 14 ∧ live.notForwarded 0 fromGateway := by
  simp only [takesFrom_iff, stays_iff]
  decide +kernel

theorem witness_RestartResets :
    let s := queued 15
    let due : State := { live with cl := { live.cl with restartTimer := some 1000000 } }
    s.takesCommand (command 0 0 0) 15 ∧ s.notForwarded 0 fromGateway ∧ (∀ p, (s.port p).routine.length < 16) ∧
      (∀ p, ∀ q ∈ (s.port p).routine, q.ownStatus = false) ∧ s.cl.restartTimer = none ∧ (s.port 0).state ≠ .off ∧
      Timer.due due.cl.restartTimer due.clock := by
  simp only [takesFrom_iff, stays_iff]
  decide +kernel

/-- The last copy of the STATUS of a RESTART leaves port A, while port B has none to send and while it has one. -/
theorem witness_restart_drain_clauses :
    let s : State :=
      { sending .send .routine 15 [] [.locate ⟨14⟩] true with cl := { live.cl with restartTimer := some 1000020 } }
    let both := s.modPort 1 fun r => { r with routine := [{ waitingFrame (.locate ⟨14⟩) with restart := true }] }
    let down := s.modPort 1 fun r => { r with state := .off }
    s.cl.restartTimer.isSome ∧ (s.port 0).tx = .send ∧ (∀ q ∈ (s.port 0).removeInHand.routine, q.restart = false) ∧
      (∀ q ∈ (s.port (other 0)).routine, q.restart = false) ∧ (down.port (other 0)).state = .off ∧
      Timer.due (s.port 0).sendEnd s.clock ∧ 15 ≤ (s.port 0).attempts ∧ (both.port (other 0)).state ≠ .off ∧
      (∃ q ∈ (both.port (other 0)).routine, q.restart = true) := by decide +kernel

/-! ### Witnesses: inputs and contacts -/

theorem witness_LevelsChange :
    live.pins.contacts[(3 : Feeder)] = false ∧ live.pins.contacts[(3 : Feeder)] ≠ true ∧
      live.pins.inputs[(0 : Input)] = true ∧ live.pins.inputs[(11 : Input)] ≠ true ∧ live.cl.settings.isSome ∧
      reading.pins.inputs[(11 : Input)] ≠ true ∧ reading.cl.settings = none ∧
      ((sending .gap .routine 0 [] [.locate ⟨14⟩] false).port 0).tx = .gap ∧
      ((sending .defer .urgent 0 [.intertrip (intertripBody 0)] [] true).port 0).tx = .defer ∧
      ((sending .defer .urgent 0 [.intertrip (intertripBody 0)] [] true).port 0).hand = some .urgent ∧
      ((sending .defer .routine 0 [] [.locate ⟨14⟩] true).port 0).hand = some .routine ∧
      (live.port 0).tx ≠ .defer := by decide +kernel

/-- The Ok of `live` is part of `witness_Kept`. -/
theorem witness_InputEdgeActs :
    let enabled := liveWith
      { settings with
        inputs := settings.inputs.set 0
          { settings.inputs[(0 : Input)] with role := .alarm, risingAlarm := true } }
    live.Ok ∧ Timer.due (live.input 0).timer live.clock ∧ live.rawLevel 0 ≠ (live.input 0).active ∧
      (let s := live.modInput 1 fun r => { r with timer := some 1000000 }
       Timer.due (s.input 1).timer s.clock ∧ s.rawLevel 1 = (s.input 1).active) ∧
      (live.group 0).state ≠ .off ∧ (live.inputSet 0).role = .none ∧ enabled.rawLevel 0 = true ∧
      enabled.rawLevel 0 ≠ (enabled.input 0).active ∧ (enabled.inputSet 0).role ≠ .none ∧
      (enabled.inputSet 0).risingAlarm = true ∧ enabled.rc.table.length ≤ 16 := by
  refine ⟨witness_Kept.1, ?_⟩
  decide +kernel

/-- The door of section 10.6 as S0: its edge holds every feeder and blocks both groups. -/
theorem test_door :
    let door := liveWith
      { settings with inputs := settings.inputs.set 0 { settings.inputs[(0 : Input)] with role := .door } }
    let t := after (.inputDebounceExpiry 0) door
    (∀ f, (t.feeder f).holds.interlock = true) ∧ (∀ g, (t.group g).causes.input = true) ∧
      (t.input 0).changed = true := by decide +kernel

end Sys2Proof.Tests
end

section
/-! PROOF. The groups as the Supply Timebase reaches them: what a block cause and a judgement of the phase do to each of
them (Chapter 3). -/

namespace Sys2Proof.Machine

/-! ### Block causes of the groups -/

@[simp] theorem CauseSet.has_put (c : CauseSet) (m : BlockCause) (b : Bool) : (c.put m b).has m = b := by
  cases m <;> rfl

theorem CauseSet.put_of_has (c : CauseSet) (m : BlockCause) {b : Bool} (h : c.has m = b) : c.put m b = c := by
  subst h; cases m <;> rfl

theorem CauseSet.has_of_isEmpty {c : CauseSet} (h : c.isEmpty) (m : BlockCause) : c.has m = false := by
  cases m <;> simp_all [CauseSet.isEmpty, CauseSet.has]

@[simp] theorem State.status_group (s : State) (g : Group) : s.status.group g = s.group g :=
  State.group_of_fc (by simp) g

theorem State.group_of_groups {s t : State} (e : t.fc.groups = s.fc.groups) (g : Group) : t.group g = s.group g := by
  simp [State.group, e]

theorem State.blockGroup_groups (g : Group) (s : State) :
    (s.blockGroup g).fc.groups =
      (s.modGroup g fun r =>
        { r with state := .blocked, pulse := none, armed := none, limited := false }).fc.groups := by
  simp [State.blockGroup]

theorem State.blockGroup_group_self (g : Group) (s : State) :
    (s.blockGroup g).group g =
      { s.group g with state := .blocked, pulse := none, armed := none, limited := false } :=
  (State.group_of_groups (s.blockGroup_groups g) g).trans (s.modGroup_group_self g _)

theorem State.blockGroup_group_ne {g g' : Group} (ne : g' ≠ g) (s : State) :
    (s.blockGroup g).group g' = s.group g' :=
  (State.group_of_groups (s.blockGroup_groups g) g').trans (s.modGroup_group_ne _ ne)

theorem State.startGroup_group_self (g : Group) (s : State) :
    (s.startGroup g).group g =
      { s.group g with
        state := .starting, prevAlpha := s.rect.alphaMax, armed := firstArmed g s.rect.alphaMax s.phi } := by
  simp [State.startGroup]

theorem State.startGroup_group_ne {g g' : Group} (ne : g' ≠ g) (s : State) :
    (s.startGroup g).group g' = s.group g' := by
  simp [State.startGroup, ne]

theorem State.putCause_group_ne {g g' : Group} (m : BlockCause) (b : Bool) (ne : g' ≠ g) (s : State) :
    (s.putCause m b g).group g' = s.group g' := by
  simp only [State.putCause]
  (repeat' split) <;> simp [State.blockGroup_group_ne ne, State.startGroup_group_ne ne, ne]

/-- A group that is OFF keeps its record, and every other one holds the member as it was put (R35, R37). -/
theorem State.putCause_causes (m : BlockCause) (b : Bool) (g : Group) (s : State) :
    ((s.putCause m b g).group g).causes =
      if (s.group g).state = .off then (s.group g).causes else (s.group g).causes.put m b := by
  simp only [State.putCause]
  split
  next h =>
    obtain off | has := h
    · simp [off]
    · simp [CauseSet.put_of_has _ m has]
  next h =>
    obtain ⟨on, -⟩ := not_or.mp h
    (repeat' split) <;> simp_all [State.blockGroup_group_self, State.startGroup_group_self]

/-- A member put into a set never turns a group OFF or on. -/
theorem State.putCause_off (m : BlockCause) (b : Bool) (g : Group) (s : State) :
    ((s.putCause m b g).group g).state = .off ↔ (s.group g).state = .off := by
  simp only [State.putCause]
  (repeat' split) <;> simp_all [State.blockGroup_group_self, State.startGroup_group_self]

/-- With a cause present a group does not fire, if it fired with no cause alone (R37). -/
theorem State.putCause_quiet (m : BlockCause) (g : Group) (s : State)
    (clear : (s.group g).state.fires → (s.group g).causes.isEmpty) :
    ((s.putCause m true g).group g).state.fires = false := by
  have notEmpty (c : CauseSet) (has : c.has m = true) : ¬ c.isEmpty := fun e => by
    simp [CauseSet.has_of_isEmpty e] at has
  simp only [State.putCause]
  split
  next h =>
    obtain off | has := h
    · simp [off, GroupState.fires]
    · exact Bool.eq_false_iff.mpr fun fires => notEmpty _ has (clear fires)
  next =>
    split
    · simp [State.blockGroup_group_self, GroupState.fires]
    · rw [if_neg (notEmpty _ (CauseSet.has_put _ m true))]
      simp_all

/-- Putting a cause in both groups treats each by itself. -/
theorem State.putCauses_group (m : BlockCause) (b : Bool) (s : State) (g : Group) :
    ∃ u : State, u.group g = s.group g ∧ (s.putCauses m b).group g = (u.putCause m b g).group g := by
  match g with
  | 0 => exact ⟨s, rfl, State.putCause_group_ne m b (by decide) _⟩
  | 1 => exact ⟨s.putCause m b 0, State.putCause_group_ne m b (by decide) s, rfl⟩

theorem State.putCauses_causes (m : BlockCause) (b : Bool) (s : State) (g : Group) :
    ((s.putCauses m b).group g).causes =
      if (s.group g).state = .off then (s.group g).causes else (s.group g).causes.put m b := by
  obtain ⟨u, hu, e⟩ := s.putCauses_group m b g
  rw [e, State.putCause_causes, hu]

theorem State.putCauses_off (m : BlockCause) (b : Bool) (s : State) (g : Group) :
    ((s.putCauses m b).group g).state = .off ↔ (s.group g).state = .off := by
  obtain ⟨u, hu, e⟩ := s.putCauses_group m b g
  rw [e, State.putCause_off, hu]

theorem State.putCauses_quiet (m : BlockCause) (s : State) (g : Group)
    (clear : (s.group g).state.fires → (s.group g).causes.isEmpty) :
    ((s.putCauses m true).group g).state.fires = false := by
  obtain ⟨u, hu, e⟩ := s.putCauses_group m true g
  rw [e]
  exact State.putCause_quiet m g u (by rwa [hu])

/-! ### The judgement of the phase -/

/-- The groups keep their causes, and none is turned OFF or on. -/
def State.causesKept (s t : State) : Prop :=
  ∀ g, (t.group g).causes = (s.group g).causes ∧ ((t.group g).state = .off ↔ (s.group g).state = .off)

theorem State.causesKept_of_fc {s t : State} (e : t.fc = s.fc) : s.causesKept t := fun g => by
  rw [State.group_of_fc e g]; simp

theorem State.status_causesKept (s : State) : s.causesKept s.status := State.causesKept_of_fc (by simp)

theorem State.causesKept_trans {s t u : State} (h : s.causesKept t) (k : t.causesKept u) : s.causesKept u :=
  fun g => ⟨(k g).1.trans (h g).1, (k g).2.trans (h g).2⟩

theorem State.causesKept_modGroup (s : State) (g : Group) {h : GroupRec → GroupRec}
    (causes : (h (s.group g)).causes = (s.group g).causes)
    (off : (h (s.group g)).state = .off ↔ (s.group g).state = .off) : s.causesKept (s.modGroup g h) := fun g' => by
  by_cases e : g' = g
  · subst e; simpa using ⟨causes, off⟩
  · simp [e]

theorem State.stepState_off (s : State) (g : Group) : s.stepState g = .off ↔ (s.group g).state = .off := by
  simp only [State.stepState]
  split <;> simp_all

theorem State.regulate_causesKept (g : Group) (k : Fin 6) (s : State) : s.causesKept (s.regulate g k) := by
  let u : State := { s with fc := { s.fc with iacc := s.newIacc g } }
  have kept (h : GroupRec → GroupRec) (causes : (h (s.group g)).causes = (s.group g).causes)
      (state : (h (s.group g)).state = s.stepState g) : s.causesKept (u.modGroup g h) :=
    u.causesKept_modGroup g causes (by rw [show u.group g = s.group g from rfl, state, s.stepState_off])
  simp only [State.regulate]
  split
  · exact kept _ rfl rfl
  · exact State.causesKept_trans (kept _ rfl rfl) (State.status_causesKept _)

theorem State.fireArmed_causesKept (g : Group) (a : Armed) (s : State) : s.causesKept (s.fireArmed g a) :=
  State.causesKept_trans (s.causesKept_modGroup g rfl Iff.rfl) (State.regulate_causesKept _ _ _)

theorem fireWithin_causesKept (n : Nat) (g : Group) (s : State) : s.causesKept (fireWithin n g s) := by
  induction n generalizing s with
  | zero => exact State.causesKept_of_fc rfl
  | succ n ih =>
    simp only [fireWithin]
    split
    · exact State.causesKept_of_fc rfl
    next a _ =>
      have first := s.fireArmed_causesKept g a
      split
      · split
        · exact State.causesKept_trans first (ih _)
        · exact first
      · exact first

theorem State.judgePhase_causesKept (g : Group) (s : State) : s.causesKept (s.judgePhase g) := by
  have pulse (u : State) : u.causesKept (u.endPulse g) := u.causesKept_modGroup g rfl Iff.rfl
  have fire (u v : State) (h : u.causesKept v) :
      u.causesKept
        (match (v.group g).armed with
        | some a => if 3000 ≤ lead a.theta v.phi then v.fire g else v
        | none => v) := by
    split
    · split
      · exact State.causesKept_trans h (fireWithin_causesKept 4 g v)
      · exact h
    · exact h
  refine fire s _ ?_
  split
  · split
    · exact pulse s
    · exact State.causesKept_of_fc rfl
  · exact State.causesKept_of_fc rfl

theorem State.phaseChanged_causesKept (s : State) : s.causesKept s.phaseChanged :=
  State.causesKept_trans (State.judgePhase_causesKept 0 s) (State.judgePhase_causesKept 1 _)

/-- PULSE_END: both outputs of the group are released (R36). -/
theorem State.endPulse_gate (s : State) (g : Group) (k : Fin 6) : (s.endPulse g).gate g k = false := by
  simp [State.endPulse, State.gate]

end Sys2Proof.Machine
end

section
/-! PROOF. What each operation of the Supply Timebase does to its record and to the groups (sections 2.1 to 2.6). -/

namespace Sys2Proof.Machine

/-! ### Reading the sources -/

theorem State.source_of_sources {s t : State} (e : t.st.sources = s.st.sources) (src : Source) :
    t.source src = s.source src := by
  simp [State.source, e]

theorem State.clearSource_of_sources {s t : State} (e : t.st.sources = s.st.sources) :
    t.clearSource = s.clearSource :=
  funext fun src => by simp [State.clearSource, State.source_of_sources e src]

theorem State.ranked_of_cl {s t : State} (e : t.cl = s.cl) : t.ranked = s.ranked := by simp [State.ranked, e]

theorem State.settings_of_cl {s t : State} (e : t.cl = s.cl) : t.settings = s.settings := by simp [State.settings, e]

theorem State.offset_of_cl {s t : State} (e : t.cl = s.cl) (src : Source) : t.offset src = s.offset src := by
  simp [State.offset, State.settings_of_cl e]

theorem State.firstClear_congr {s t : State} (cl : t.cl = s.cl) (sources : t.st.sources = s.st.sources) :
    t.firstClear = s.firstClear := by
  simp [State.firstClear, State.ranked_of_cl cl, State.clearSource_of_sources sources]

theorem State.nextClear_congr {s t : State} (cl : t.cl = s.cl) (sources : t.st.sources = s.st.sources)
    (active : t.st.active = s.st.active) : t.nextClear = s.nextClear := by
  simp only [State.nextClear, State.firstClear_congr cl sources, State.ranked_of_cl cl,
    State.clearSource_of_sources sources, active]

/-! ### What an operation does to the timebase record -/

/-- The second record differs in the pacing lane and the step timer at most. -/
abbrev Timebase.onlyPacing (a b : Timebase) : Prop :=
  b.sources = a.sources ∧ b.tracker = a.tracker ∧ b.active = a.active ∧ b.window = a.window ∧
    b.failures = a.failures ∧ b.stepLoss = a.stepLoss ∧ b.goodCrossings = a.goodCrossings ∧ b.period = a.period ∧
    b.phase = a.phase ∧ b.vamp = a.vamp ∧ b.seekTimer = a.seekTimer ∧ b.holdoverTimer = a.holdoverTimer ∧
    b.retryTimer = a.retryTimer

/-- The second record differs in the source table at most. -/
abbrev Timebase.onlySources (a b : Timebase) : Prop :=
  b.tracker = a.tracker ∧ b.active = a.active ∧ b.window = a.window ∧ b.failures = a.failures ∧
    b.stepLoss = a.stepLoss ∧ b.goodCrossings = a.goodCrossings ∧ b.period = a.period ∧ b.phase = a.phase ∧
    b.stepInUse = a.stepInUse ∧ b.lastStep = a.lastStep ∧ b.vamp = a.vamp ∧ b.pacing = a.pacing ∧
    b.seekTimer = a.seekTimer ∧ b.holdoverTimer = a.holdoverTimer ∧ b.retryTimer = a.retryTimer ∧
    b.stepTimer = a.stepTimer

@[simp] theorem State.modSource_st (s : State) (src : Source) (h : SourceRec → SourceRec) :
    s.st.onlySources (s.modSource src h).st := by
  simp [Timebase.onlySources, State.modSource]

@[simp] theorem State.choosePacing_st (s : State) : s.st.onlyPacing s.choosePacing.st := by
  unfold Timebase.onlyPacing State.choosePacing
  (repeat' split) <;> simp

@[simp] theorem State.setActive_st (s : State) (a : Option Source) :
    { s.st with active := a }.onlyPacing (s.setActive a).st := by
  unfold Timebase.onlyPacing State.setActive
  simp

@[simp] theorem State.setTracker_st (s : State) (k : Tracker) : (s.setTracker k).st = { s.st with tracker := k } := by
  simp only [State.setTracker]
  split <;> simp

@[simp] theorem State.giveVamp_st (s : State) (v : Int) : (s.giveVamp v).st = { s.st with vamp := v } := by
  simp only [State.giveVamp]
  split
  next same => simp [same]
  next => (repeat' split) <;> simp

@[simp] theorem State.enterLocked_st (s : State) (src : Source) :
    (s.enterLocked src).st =
      { s.st with
        stepLoss := 0, seekTimer := none, holdoverTimer := none, vamp := (s.source src).amplitude,
        tracker := .locked } := by
  simp [State.enterLocked, State.source]

/-- Entry into HOLDOVER leaves the sources, P, the phase and the given amplitude as they were (R29). -/
@[simp] theorem State.enterHoldover_st (s : State) :
    s.enterHoldover.st.tracker = .holdover ∧ s.enterHoldover.st.active = s.nextClear ∧
      s.enterHoldover.st.holdoverTimer = some (s.clock + s.settings.timebase.thold * 1000) ∧
      s.enterHoldover.st.sources = s.st.sources ∧ s.enterHoldover.st.period = s.st.period ∧
      s.enterHoldover.st.phase = s.st.phase ∧ s.enterHoldover.st.vamp = s.st.vamp := by
  let u : State :=
    { s with
      st :=
        { s.st with
          stepLoss := 0, goodCrossings := 0, holdoverTimer := s.after (s.settings.timebase.thold * msec) } }
  have next : u.nextClear = s.nextClear := State.nextClear_congr rfl rfl rfl
  simp [State.enterHoldover, State.after, msec, ← next]

/-! ### TIMEBASE follows the tracker -/

/-- Of the groups a tracker change alters nothing but what TIMEBASE in their sets does (R32). -/
theorem State.setTracker_group (s : State) (k : Tracker) (g : Group) :
    (s.setTracker k).group g =
      (({ s with st := { s.st with tracker := k } } : State).putCauses .timebase k.holdsTimebase).group g := by
  simp only [State.setTracker]
  split <;> exact State.group_of_fc (by simp) g

theorem State.setTracker_causes (s : State) (k : Tracker) (g : Group) :
    ((s.setTracker k).group g).causes =
      if (s.group g).state = .off then (s.group g).causes
      else { (s.group g).causes with timebase := k.holdsTimebase } := by
  rw [s.setTracker_group, State.putCauses_causes]; rfl

theorem State.setTracker_off (s : State) (k : Tracker) (g : Group) :
    ((s.setTracker k).group g).state = .off ↔ (s.group g).state = .off := by
  rw [s.setTracker_group, State.putCauses_off]; rfl

theorem State.enterSeek_fc (s : State) :
    ∃ u : State, u.fc = s.fc ∧ s.enterSeek.fc = (u.setTracker .seek).fc :=
  ⟨{ s with st := { s.st with
      window := [], stepLoss := 0, goodCrossings := 0, seekTimer := s.after (1000 * msec), holdoverTimer := none,
      retryTimer := none } }, rfl, by simp [State.enterSeek]⟩

theorem State.setTracker_timebase {s : State} (k : Tracker) {g : Group} (on : (s.group g).state ≠ .off) :
    ((s.setTracker k).group g).causes.timebase = k.holdsTimebase := by
  rw [State.setTracker_causes, if_neg on]

/-- Entry into SEEK does what R25 says and keeps every group from firing (R32). -/
theorem State.enterSeek_sought (s : State) : s.Sought s.enterSeek := by
  obtain ⟨u, hu, e⟩ := s.enterSeek_fc
  refine ⟨by simp [State.enterSeek], ?_, by simp [State.enterSeek, State.after, msec], by simp [State.enterSeek],
    fun g on => ?_, fun ok g => ?_, s.enterSeek_frame⟩
  · have first : s.enterSeek.firstClear = s.firstClear :=
      State.firstClear_congr (by simp) (by simp [State.enterSeek])
    simp only [State.enterSeek, State.setActive_st]
    exact State.firstClear_congr (by simp) (by simp)
  · rw [State.group_of_fc e g]
    exact State.setTracker_timebase .seek (by rwa [State.group_of_fc hu g])
  · rw [State.group_of_fc e g, State.setTracker_group]
    refine State.putCauses_quiet .timebase _ g fun fires => ?_
    have same := State.group_of_fc hu g
    exact same ▸ ((ok.groups g).fires.mp (same ▸ fires)).2

/-- Entry into FAULT (R31). -/
theorem State.enterFault_st (s : State) :
    s.enterFault.st.tracker = .fault ∧ s.enterFault.st.seekTimer = none ∧ s.enterFault.st.active = none ∧
      s.enterFault.st.retryTimer = some (s.clock + 10000000) ∧ s.enterFault.st.failures = s.st.failures ∧
      s.enterFault.st.sources = s.st.sources ∧ s.enterFault.st.period = s.st.period ∧
      s.enterFault.st.phase = s.st.phase := by
  simp [State.enterFault, State.after, msec]

/-! ### Squelch -/

/-- The tracker that loses a source keeps the source table, P, the phase and the given amplitude (R25, R29, R30). -/
@[simp] theorem State.trackerLoses_st (s : State) (src : Source) :
    (s.trackerLoses src).st.sources = s.st.sources ∧ (s.trackerLoses src).st.period = s.st.period ∧
      (s.trackerLoses src).st.phase = s.st.phase ∧ (s.trackerLoses src).st.vamp = s.st.vamp := by
  simp only [State.trackerLoses]
  (repeat' split) <;> simp

theorem State.trackerLoses_of_not_active {s : State} {src : Source} (h : s.st.active ≠ some src) :
    s.trackerLoses src = s := if_neg h

theorem State.trackerLoses_locked {s : State} {src : Source} (active : s.st.active = some src)
    (locked : s.st.tracker = .locked) : s.trackerLoses src = s.enterHoldover := by
  simp [State.trackerLoses, active, locked]

theorem State.squelch_of_squelched {s : State} {src : Source} (h : (s.source src).squelched = true) :
    s.squelch src = s := if_pos h

theorem State.squelch_of_clear {s : State} {src : Source} (h : (s.source src).squelched = false) :
    s.squelch src = (s.modSource src fun r => { r with squelched := true }).trackerLoses src := by
  simp [State.squelch, h]

theorem State.squelch_source_self (s : State) (src : Source) :
    (s.squelch src).source src = { s.source src with squelched := true } := by
  cases h : (s.source src).squelched
  · rw [State.squelch_of_clear h, State.source_of_sources (State.trackerLoses_st _ src).1]
    simp
  · rw [State.squelch_of_squelched h, ← h]

theorem State.squelch_source_ne (s : State) {src src' : Source} (ne : src' ≠ src) :
    (s.squelch src).source src' = s.source src' := by
  cases h : (s.source src).squelched
  · rw [State.squelch_of_clear h, State.source_of_sources (State.trackerLoses_st _ src).1]
    simp [ne]
  · rw [State.squelch_of_squelched h]

end Sys2Proof.Machine
end

section
/-! PROOF. The timers of the timebase and the end of a pulse. -/

namespace Sys2Proof.Machine

/-! ### The timers of the timebase -/

theorem State.stepTick_eq (s : State) :
    s.stepTick =
      { s with
        st :=
          { s.st with
            phase := (s.st.phase + phaseStep s.st.period) % cycle, stepInUse := phaseStep s.st.period,
            lastStep := s.clock, stepTimer := some (s.clock + 100) } } := by
  simp [State.stepTick, State.advance, State.after]

theorem State.watchEnds_source_self (s : State) (src : Source) :
    (s.watchEnds src).source src =
      { s.source src with squelched := true, watch := none, lowCount := 0, goodCount := 0, halfOpen := false } := by
  rw [State.watchEnds, State.squelch_source_self, State.modSource_source_self]

theorem State.watchEnds_source_ne (s : State) {src src' : Source} (ne : src' ≠ src) :
    (s.watchEnds src).source src' = s.source src' := by
  rw [State.watchEnds, State.squelch_source_ne _ ne, State.modSource_source_ne _ _ ne]

/-- A squelch keeps P, the phase and the given amplitude. -/
@[simp] theorem State.squelch_st (s : State) (src : Source) :
    (s.squelch src).st.period = s.st.period ∧ (s.squelch src).st.phase = s.st.phase ∧
      (s.squelch src).st.vamp = s.st.vamp := by
  unfold State.squelch
  split <;> simp

/-- The squelch of the active source in LOCKED leads to HOLDOVER (R29). -/
theorem State.squelch_locked {s : State} {src : Source} (clear : (s.source src).squelched = false)
    (active : s.st.active = some src) (locked : s.st.tracker = .locked) :
    (s.squelch src).st.tracker = .holdover ∧
      (s.squelch src).st.holdoverTimer = some (s.clock + s.settings.timebase.thold * 1000) := by
  rw [State.squelch_of_clear clear, State.trackerLoses_locked (by simpa using active) (by simpa using locked)]
  simp [State.settings]

/-- The squelch of another source, or of one that is squelched already, reaches no other block and not the tracker. -/
theorem State.squelch_unheard {s : State} {src : Source}
    (h : s.st.active ≠ some src ∨ (s.source src).squelched = true) :
    (s.squelch src).st.tracker = s.st.tracker ∧ (s.squelch src).st.active = s.st.active ∧
      (s.squelch src).fc = s.fc ∧ (s.squelch src).pp = s.pp ∧ (s.squelch src).rc = s.rc := by
  cases sq : (s.source src).squelched
  · have other : s.st.active ≠ some src := by simpa [sq] using h
    rw [State.squelch_of_clear sq, State.trackerLoses_of_not_active (by simpa using other)]
    simp
  · simp [State.squelch_of_squelched sq]

/-- The seek timer's expiry with the failures below their limit: the tracker seeks on, from the next CLEAR source
(R27). -/
theorem State.seekEnds_again {s : State} (few : s.st.failures + 1 < 5) :
    s.seekEnds.st.failures = s.st.failures + 1 ∧ s.seekEnds.st.tracker = s.st.tracker ∧ s.seekEnds.st.window = [] ∧
      s.seekEnds.st.seekTimer = some (s.clock + 1000000) ∧ s.seekEnds.st.active = s.nextClear ∧
      s.seekEnds.fc = s.fc ∧ s.seekEnds.pp = s.pp ∧ s.seekEnds.rc = s.rc ∧ s.seekEnds.st.sources = s.st.sources ∧
      s.seekEnds.st.period = s.st.period ∧ s.seekEnds.st.phase = s.st.phase := by
  have count : countUpTo 255 s.st.failures = s.st.failures + 1 := by unfold countUpTo; omega
  have next (st : Timebase) (sources : st.sources = s.st.sources) (active : st.active = s.st.active) :
      ({ s with st } : State).nextClear = s.nextClear := State.nextClear_congr rfl sources active
  simp [State.seekEnds, count, show ¬ 5 ≤ s.st.failures + 1 by omega, State.after, msec, next]

/-- The seek timer's expiry at the limit of failures: the tracker enters FAULT (R27, R31). -/
theorem State.seekEnds_fault {s : State} (many : 5 ≤ s.st.failures + 1) :
    s.seekEnds.st.failures = min 255 (s.st.failures + 1) ∧ s.seekEnds.st.tracker = .fault ∧
      s.seekEnds.st.seekTimer = none ∧ s.seekEnds.st.active = none ∧
      s.seekEnds.st.retryTimer = some (s.clock + 10000000) ∧ s.seekEnds.st.sources = s.st.sources ∧
      s.seekEnds.st.period = s.st.period ∧ s.seekEnds.st.phase = s.st.phase := by
  simp [State.seekEnds, countUpTo, show 4 ≤ s.st.failures by omega, State.enterFault_st]

/-! ### The commands -/

theorem other_ne (g : Fin 2) : other g ≠ g := by revert g; decide

theorem exec_pulseEnd {g : Group} {p : Pulse} {s : State} (pulse : (s.group g).pulse = some p)
    (due : reached p.endPhase s.phi) : exec (.pulseEnd g) s = .next (s.endPulse g) := by
  simp [exec, execPulseEnd, pulse, due]

/-- Settles O16: a pacing step of the step timer is one addition to the phase, and the end of a pulse is one change of
the group's record. -/
theorem phaseTimersExpire : Obligations.PhaseTimersExpire := by
  unfold Obligations.PhaseTimersExpire
  refine ⟨fun s due => ?_, fun g p s pulse due => ⟨s.endPulse g, exec_pulseEnd pulse due, ?_, ?_, ?_, rfl⟩⟩
  · exact congrArg Host.Outcome.next ((if_pos due).trans s.stepTick_eq)
  · exact s.modGroup_group_self g _
  · exact s.endPulse_gate g
  · exact s.modGroup_group_ne _ (other_ne g)

/-- Settles O15: the watch ends in a squelch, the seek timer in another seek or in FAULT, and the holdover and retry
timers in an entry into SEEK. -/
theorem timebaseTimersExpire : Obligations.TimebaseTimersExpire := by
  unfold Obligations.TimebaseTimersExpire
  have acts {t : Timer} {s u : State} (due : Timer.due t s.clock) :
      Host.Outcome.next (if Timer.due t s.clock then u else s) = (.next u : Host.Outcome State Fault Refusal) :=
    congrArg _ (if_pos due)
  refine ⟨fun src s due => ⟨s.watchEnds src, acts due, s.watchEnds_source_self src, fun _ => s.watchEnds_source_ne,
    ?_, ?_, ?_, ?_, ?_, s.watchEnds_frame src⟩, fun s due seek => ⟨s.seekEnds, acts due, ?_⟩,
    fun s => ⟨fun due => ⟨_, acts due, s.enterSeek_sought⟩, fun due => ⟨_, acts due, s.enterSeek_sought⟩⟩⟩
  · simp [State.watchEnds]
  · simp [State.watchEnds]
  · simp [State.watchEnds]
  · intro clear active locked
    simpa [State.watchEnds, State.settings] using
      State.squelch_locked (s := s.modSource src _) (by simpa using clear) (by simpa using active)
        (by simpa using locked)
  · intro unheard
    simpa [State.watchEnds] using State.squelch_unheard (s := s.modSource src _) (by simpa using unheard)
  · rcases Nat.lt_or_ge (s.st.failures + 1) 5 with few | many
    · obtain ⟨count, tracker, window, timer, active, fc, pp, rc, sources, period, phase⟩ := State.seekEnds_again few
      exact ⟨by omega, fun _ => ⟨tracker.trans seek, window, timer, active, fc, pp, rc⟩, fun many => by omega,
        sources, period, phase, s.seekEnds_frame⟩
    · obtain ⟨count, tracker, timer, active, retry, sources, period, phase⟩ := State.seekEnds_fault many
      exact ⟨count, fun few => by omega, fun _ => ⟨tracker, timer, active, retry⟩, sources, period, phase,
        s.seekEnds_frame⟩

end Sys2Proof.Machine
end

section
/-! PROOF. The tracker at a positive crossing: what it does to the timebase record and to the groups (section 2.5). -/

namespace Sys2Proof.Machine

/-! ### SUPPLY follows the given amplitude -/

/-- In every group that is not OFF, SUPPLY is as Vd0 of the given amplitude has it at 1000 and 1500 (R33). -/
def State.supplyAgrees (s : State) : Prop :=
  ∀ g, (s.group g).state ≠ .off →
    (vd0Of s.st.vamp < 1000 → (s.group g).causes.supply = true) ∧
      (1500 ≤ vd0Of s.st.vamp → (s.group g).causes.supply = false)

/-- No group is turned OFF or on, and either the given amplitude and SUPPLY are as they were or they agree (R33). -/
structure State.SupplyFollows (s t : State) : Prop where
  off : ∀ g, (t.group g).state = .off ↔ (s.group g).state = .off
  supply : (t.st.vamp = s.st.vamp ∧ ∀ g, (t.group g).causes.supply = (s.group g).causes.supply) ∨ t.supplyAgrees

namespace State.SupplyFollows

theorem trans {s t u : State} (h : s.SupplyFollows t) (k : t.SupplyFollows u) : s.SupplyFollows u := by
  refine ⟨fun g => (k.off g).trans (h.off g), ?_⟩
  obtain ⟨vampU, supplyU⟩ | agrees := k.supply
  · obtain ⟨vampT, supplyT⟩ | agrees := h.supply
    · exact .inl ⟨vampU.trans vampT, fun g => (supplyU g).trans (supplyT g)⟩
    · refine .inr fun g on => ?_
      rw [vampU, supplyU]
      exact agrees g (mt (k.off g).mpr on)
  · exact .inr agrees

theorem after {s t u : State} (k : t.SupplyFollows u) (h : s.SupplyFollows t) : s.SupplyFollows u := h.trans k

/-- The given amplitude and the causes as they were. -/
theorem of_causesKept {s t : State} (kept : s.causesKept t) (vamp : t.st.vamp = s.st.vamp) : s.SupplyFollows t :=
  ⟨fun g => (kept g).2, .inl ⟨vamp, fun g => by rw [(kept g).1]⟩⟩

theorem of_fc {s t : State} (fc : t.fc = s.fc) (vamp : t.st.vamp = s.st.vamp) : s.SupplyFollows t :=
  of_causesKept (State.causesKept_of_fc fc) vamp

theorem refl (s : State) : s.SupplyFollows s := of_fc rfl rfl

/-- A change of the given amplitude leaves SUPPLY agreeing with it. -/
theorem agrees_of_changed {s t : State} (h : s.SupplyFollows t) (changed : t.st.vamp ≠ s.st.vamp) : t.supplyAgrees :=
  h.supply.resolve_left fun same => changed same.1

theorem setTracker (s : State) (k : Tracker) : s.SupplyFollows (s.setTracker k) := by
  refine ⟨s.setTracker_off k, .inl ⟨by simp, fun g => ?_⟩⟩
  rw [s.setTracker_causes]
  split <;> rfl

theorem giveVamp (s : State) (v : Int) : s.SupplyFollows (s.giveVamp v) := by
  simp only [State.giveVamp]
  split
  · exact refl s
  · have agrees (b : Bool) (low : vd0Of v < 1000 → b = true) (high : 1500 ≤ vd0Of v → b = false) :
        s.SupplyFollows (({ s with st := { s.st with vamp := v } } : State).putCauses .supply b) := by
      refine ⟨fun g => State.putCauses_off _ _ _ g, .inr fun g on => ?_⟩
      rw [State.putCauses_causes, if_neg (mt (State.putCauses_off _ _ _ g).mpr on)]
      simpa [CauseSet.put] using ⟨low, high⟩
    split
    · exact agrees true (fun _ => rfl) (fun _ => by omega)
    · split
      · exact agrees false (fun _ => by omega) (fun _ => rfl)
      · exact ⟨fun _ => Iff.rfl, .inr fun _ _ => ⟨fun _ => by simp_all, fun _ => by simp_all⟩⟩

theorem setActive (s : State) (a : Option Source) : s.SupplyFollows (s.setActive a) := of_fc (by simp) (by simp)

theorem phaseChanged (s : State) : s.SupplyFollows s.phaseChanged := of_causesKept s.phaseChanged_causesKept (by simp)

theorem enterSeek (s : State) : s.SupplyFollows s.enterSeek := by
  simp only [State.enterSeek]
  exact (setActive _ _).after ((setTracker _ .seek).after (of_fc rfl rfl))

theorem enterHoldover (s : State) : s.SupplyFollows s.enterHoldover := by
  simp only [State.enterHoldover]
  exact (setTracker _ .holdover).after ((setActive _ _).after (of_fc rfl rfl))

theorem enterLocked (s : State) (src : Source) : s.SupplyFollows (s.enterLocked src) := by
  simp only [State.enterLocked]
  exact (setTracker _ .locked).after ((giveVamp _ _).after (of_fc rfl rfl))

theorem trackerLoses (s : State) (src : Source) : s.SupplyFollows (s.trackerLoses src) := by
  unfold State.trackerLoses
  split
  · split
    · exact (setActive _ _).after (of_fc rfl rfl)
    · exact enterHoldover s
    · exact (setActive _ _).after (of_fc rfl rfl)
    · exact refl s
  · exact refl s

theorem trackerGains (s : State) (src : Source) : s.SupplyFollows (s.trackerGains src) := by
  unfold State.trackerGains
  split
  · exact (setActive _ _).after (of_fc rfl rfl)
  · exact (setActive _ _).after (of_fc rfl rfl)
  · exact refl s

theorem modSource (s : State) (src : Source) (h : SourceRec → SourceRec) : s.SupplyFollows (s.modSource src h) :=
  of_fc rfl rfl

theorem squelch (s : State) (src : Source) : s.SupplyFollows (s.squelch src) := by
  unfold State.squelch
  split
  · exact refl s
  · exact (trackerLoses _ src).after (modSource s src _)

theorem unsquelch (s : State) (src : Source) : s.SupplyFollows (s.unsquelch src) :=
  (trackerGains _ src).after (modSource s src _)

theorem seekSucceeds (s : State) (src : Source) (c : Crossing) (w : List Int) :
    s.SupplyFollows (s.seekSucceeds src c w) := by
  simp only [State.seekSucceeds]
  exact (enterLocked _ src).after ((phaseChanged _).after (of_fc rfl rfl))

theorem seekCrossing (s : State) (src : Source) (c : Crossing) : s.SupplyFollows (s.seekCrossing src c) := by
  have window (w : List Int) : s.SupplyFollows { s with st := { s.st with window := w } } := of_fc rfl rfl
  simp only [State.seekCrossing]
  split
  · split
    · split
      · exact window _
      · split
        · exact seekSucceeds s src c _
        · exact window _
    · exact window _
  · exact window _

theorem correctPhase (s : State) (e : Int) : s.SupplyFollows (s.correctPhase e) := by
  have corrected := (phaseChanged { s with st := { s.st with phase := (s.st.phase + e / 4 * 65536) % cycle } }).after
    (of_fc (s := s) rfl rfl)
  simp only [State.correctPhase]
  split
  · split
    · exact (enterSeek _).after (corrected.trans (of_fc rfl rfl))
    · exact corrected.trans (of_fc rfl rfl)
  · exact corrected.trans (of_fc rfl rfl)

theorem followCrossing (s : State) (c : Crossing) (e : Int) : s.SupplyFollows (s.followCrossing c e) := by
  simp only [State.followCrossing]
  split
  · split
    · exact (correctPhase _ e).after (of_fc rfl rfl)
    · exact enterSeek s
  · exact correctPhase s e

theorem holdoverCrossing (s : State) (src : Source) (c : Crossing) : s.SupplyFollows (s.holdoverCrossing src c) := by
  simp only [State.holdoverCrossing]
  split
  · exact enterSeek s
  · split
    · exact of_fc rfl rfl
    · exact (followCrossing _ c _).after ((enterLocked _ src).after (of_fc rfl rfl))

theorem trackCrossing (s : State) (src : Source) (c : Crossing) : s.SupplyFollows (s.trackCrossing src c) := by
  unfold State.trackCrossing
  split
  · split
    · exact seekCrossing s src c
    · exact followCrossing s c _
    · exact holdoverCrossing s src c
    · exact refl s
  · exact refl s

end State.SupplyFollows

end Sys2Proof.Machine
end

section
/-! PROOF. A positive crossing of the active source in SEEK, LOCKED and HOLDOVER, case by case (section 2.5). -/

namespace Sys2Proof.Machine

theorem magnitude_gt (e n : Int) : n < magnitude e ↔ e < -n ∨ n < e := by
  unfold magnitude; omega

theorem validPeriod_iff (p : Int) : validPeriod p = true ↔ 246154 ≤ p ∧ p ≤ 355556 := by
  simp [validPeriod]

/-! ### Entry into SEEK from another state -/

/-- The tracker has entered SEEK: its window is empty, its timer runs and TIMEBASE holds every group (R25, R32). -/
structure State.SeeksAnew (s t : State) : Prop where
  record : t.st.tracker = .seek ∧ t.st.window = [] ∧ t.st.stepLoss = 0
  timers : t.st.seekTimer = some (s.clock + 1000000) ∧ t.st.holdoverTimer = none
  timebase : ∀ g, (s.group g).state ≠ .off → (t.group g).causes.timebase = true

/-- A step at the same clock that turns no group OFF or on may come before the entry. -/
theorem State.SeeksAnew.after {s u t : State} (h : u.SeeksAnew t) (follows : s.SupplyFollows u)
    (clock : u.clock = s.clock) : s.SeeksAnew t :=
  ⟨h.record, clock ▸ h.timers, fun g on => h.timebase g (mt (follows.off g).mp on)⟩

theorem State.enterSeek_seeksAnew (s : State) : s.SeeksAnew s.enterSeek := by
  obtain ⟨⟨tracker, window, stepLoss, -⟩, -, ⟨seek, holdover, -⟩, -, timebase, -, -⟩ := s.enterSeek_sought
  exact ⟨⟨tracker, window, stepLoss⟩, ⟨seek, holdover⟩, timebase⟩

@[simp] theorem State.enterSeek_kept (s : State) :
    s.enterSeek.st.sources = s.st.sources ∧ s.enterSeek.st.period = s.st.period ∧
      s.enterSeek.st.phase = s.st.phase ∧ s.enterSeek.st.vamp = s.st.vamp ∧
      s.enterSeek.st.failures = s.st.failures := s.enterSeek_sought.kept

theorem State.enterSeek_where (s : State) :
    s.enterSeek.st.tracker = .seek ∧ s.enterSeek.st.period = s.st.period ∧ s.enterSeek.st.phase = s.st.phase :=
  ⟨s.enterSeek_sought.tracker.1, by simp⟩

/-! ### SEEK -/

theorem State.enterLocked_timebase (s : State) (src : Source) {g : Group} (on : (s.group g).state ≠ .off) :
    ((s.enterLocked src).group g).causes.timebase = false := by
  simp only [State.enterLocked]
  exact State.setTracker_timebase .locked (mt ((State.SupplyFollows.giveVamp _ _).off g).mp on)

/-- The seek succeeds: P is the mean of the window, and the phase at the crossing the offset of the source (R26). -/
@[simp] theorem State.seekSucceeds_st (s : State) (src : Source) (c : Crossing) (w : List Int) :
    (s.seekSucceeds src c w).st =
      { s.st with
        window := w, period := w.sum / 3, failures := 0, stepLoss := 0, seekTimer := none, holdoverTimer := none,
        phase := (s.offset src * 65536 + c.since (phaseStep (w.sum / 3))) % cycle,
        vamp := (s.source src).amplitude, tracker := .locked } := by
  simp [State.seekSucceeds, State.source]

theorem State.seekSucceeds_timebase (s : State) (src : Source) (c : Crossing) (w : List Int) {g : Group}
    (on : (s.group g).state ≠ .off) : ((s.seekSucceeds src c w).group g).causes.timebase = false := by
  simp only [State.seekSucceeds]
  exact State.enterLocked_timebase _ src (mt ((State.SupplyFollows.phaseChanged _).off g).mp on)

/-- A missing period or one out of range empties the window (R25). -/
theorem State.seekCrossing_bad {s : State} {c : Crossing} (src : Source)
    (bad : ∀ q, c.period = some q → validPeriod q = false) :
    s.seekCrossing src c = { s with st := { s.st with window := [] } } := by
  unfold State.seekCrossing
  split
  next q h => simp [bad q h]
  next => rfl

/-- A good period joins a window of fewer than two (R25). -/
theorem State.seekCrossing_joins {s : State} {c : Crossing} {q : Int} (src : Source) (period : c.period = some q)
    (good : validPeriod q = true) (short : s.st.window.length < 2) :
    s.seekCrossing src c = { s with st := { s.st with window := s.st.window ++ [q] } } := by
  simp [State.seekCrossing, period, good, show s.st.window.length + 1 < 3 by omega]

/-- The third good period is judged with the two before it (R25, R26). -/
theorem State.seekCrossing_third {s : State} {c : Crossing} {a b q : Int} (src : Source) (period : c.period = some q)
    (good : validPeriod q = true) (window : s.st.window = [a, b]) :
    s.seekCrossing src c =
      if consistent [a, b, q] then s.seekSucceeds src c [a, b, q]
      else { s with st := { s.st with window := [b, q] } } := by
  simp [State.seekCrossing, period, good, window]

theorem consistent_three (a b q : Int) :
    consistent [a, b, q] = true ↔ max a (max b q) - min a (min b q) ≤ min a (min b q) / 100 := by
  simp [consistent, List.max?, List.min?, max_assoc, min_assoc]

theorem sum_three (a b q : Int) : [a, b, q].sum = a + b + q := by
  simp [add_assoc]

/-- Three good periods that agree within 1 % lock the tracker (R25, R26). -/
theorem State.seekCrossing_locks {s : State} {c : Crossing} {a b q : Int} (src : Source) (period : c.period = some q)
    (good : validPeriod q = true) (window : s.st.window = [a, b])
    (close : max a (max b q) - min a (min b q) ≤ min a (min b q) / 100) :
    let t := s.seekCrossing src c
    t.st.tracker = .locked ∧ t.st.active = s.st.active ∧ t.st.period = (a + b + q) / 3 ∧
      t.st.phase = (s.offset src * 65536 + c.since (phaseStep ((a + b + q) / 3))) % cycle ∧ t.st.failures = 0 ∧
      t.st.stepLoss = 0 ∧ t.st.seekTimer = none ∧ t.st.vamp = (t.source src).amplitude ∧
      ∀ g, (s.group g).state ≠ .off → (t.group g).causes.timebase = false := by
  have sources : (s.seekSucceeds src c [a, b, q]).st.sources = s.st.sources := by simp
  dsimp only
  rw [State.seekCrossing_third src period good window, if_pos ((consistent_three a b q).mpr close),
    State.source_of_sources sources, s.seekSucceeds_st, sum_three]
  exact ⟨rfl, rfl, rfl, rfl, rfl, rfl, rfl, rfl, fun g on => s.seekSucceeds_timebase src c _ on⟩

/-! ### LOCKED -/

/-- An error of at most 50 corrects the phase and ends the run of step losses (R28). -/
theorem State.correctPhase_near {s : State} {e : Int} (near : ¬ 50 < magnitude e) :
    (s.correctPhase e).st =
      { s.st with phase := (s.st.phase + e / 4 * 65536) % cycle, stepLoss := 0 } := by
  simp [State.correctPhase, near]

/-- The first and the second error above 50 in a row (R28). -/
theorem State.correctPhase_far {s : State} {e : Int} (far : 50 < magnitude e) (few : s.st.stepLoss < 2) :
    (s.correctPhase e).st =
      { s.st with phase := (s.st.phase + e / 4 * 65536) % cycle, stepLoss := s.st.stepLoss + 1 } := by
  simp [State.correctPhase, far, show ¬ 2 ≤ s.st.stepLoss by omega]

/-- The third error above 50 in a row leads to SEEK (R28). -/
theorem State.correctPhase_lost {s : State} {e : Int} (far : 50 < magnitude e) (many : 2 ≤ s.st.stepLoss) :
    s.SeeksAnew (s.correctPhase e) ∧ (s.correctPhase e).st.period = s.st.period ∧
      (s.correctPhase e).st.phase = (s.st.phase + e / 4 * 65536) % cycle := by
  let u : State := { s with st := { s.st with phase := (s.st.phase + e / 4 * 65536) % cycle } }
  let v : State := { u.phaseChanged with st := { u.phaseChanged.st with stepLoss := u.phaseChanged.st.stepLoss + 1 } }
  have seeks : s.correctPhase e = v.enterSeek := by
    simp [State.correctPhase, far, many, u, v]
  have before : s.SupplyFollows v :=
    .trans (t := u) (.of_fc rfl rfl) (.trans (.phaseChanged u) (.of_fc rfl rfl))
  rw [seeks]
  exact ⟨v.enterSeek_seeksAnew.after before (by simp [u, v]), by simp [u, v], by simp [u, v]⟩

/-- Steps 3 and 4 of R28: the phase is corrected, and the run of step losses decides on the tracker's state. -/
theorem State.correctPhase_outcome (s : State) (e : Int) :
    (s.correctPhase e).st.period = s.st.period ∧
      (s.correctPhase e).st.phase = (s.st.phase + e / 4 * 65536) % cycle ∧
      (-50 ≤ e ∧ e ≤ 50 → (s.correctPhase e).st.tracker = s.st.tracker ∧ (s.correctPhase e).st.stepLoss = 0) ∧
      (e < -50 ∨ 50 < e → s.st.stepLoss < 2 →
        (s.correctPhase e).st.tracker = s.st.tracker ∧ (s.correctPhase e).st.stepLoss = s.st.stepLoss + 1) ∧
      (e < -50 ∨ 50 < e → 2 ≤ s.st.stepLoss →
        (s.correctPhase e).st.tracker = .seek ∧ (s.correctPhase e).st.stepLoss = 0) := by
  have limit := magnitude_gt e 50
  by_cases far : 50 < magnitude e
  · rcases Nat.lt_or_ge s.st.stepLoss 2 with few | many
    · rw [State.correctPhase_far far few]
      exact ⟨rfl, rfl, fun _ => by omega, fun _ _ => ⟨rfl, rfl⟩, fun _ _ => by omega⟩
    · obtain ⟨⟨⟨tracker, -, stepLoss⟩, -, -⟩, period, phase⟩ := State.correctPhase_lost far many
      exact ⟨period, phase, fun _ => by omega, fun _ _ => by omega, fun _ _ => ⟨tracker, stepLoss⟩⟩
  · rw [State.correctPhase_near far]
    exact ⟨rfl, rfl, fun _ => ⟨rfl, rfl⟩, fun _ _ => by omega, fun _ _ => by omega⟩

/-- P after a crossing in LOCKED: an eighth of the error of the measured period is taken off (R28). -/
def State.followed (s : State) (c : Crossing) : Int :=
  match c.period with
  | some q => s.st.period + (q - s.st.period) / 8
  | none => s.st.period

/-- A new P in its range is kept before the phase is corrected (R28). -/
theorem State.followCrossing_kept {s : State} {c : Crossing} (e : Int)
    (kept : c.period = none ∨ validPeriod (s.followed c) = true) :
    s.followCrossing c e = { s with st := { s.st with period := s.followed c } }.correctPhase e := by
  unfold State.followCrossing State.followed at *
  split <;> simp_all

/-- A new P outside its range is not kept, and leads to SEEK (log 41). -/
theorem State.followCrossing_lost {s : State} {c : Crossing} (e : Int)
    (lost : ¬ (c.period = none ∨ validPeriod (s.followed c) = true)) : s.followCrossing c e = s.enterSeek := by
  unfold State.followCrossing State.followed at *
  split <;> simp_all

theorem State.followed_of_period {s t : State} (same : t.st.period = s.st.period) (c : Crossing) :
    t.followed c = s.followed c := by
  simp only [State.followed, same]

/-! ### HOLDOVER -/

/-- An error above 50 leads to SEEK (R30). -/
theorem State.holdoverCrossing_far {s : State} {src : Source} {c : Crossing}
    (far : 50 < magnitude (s.phaseError src c)) : s.holdoverCrossing src c = s.enterSeek := by
  simp [State.holdoverCrossing, far]

/-- The first error of at most 50 is counted (R30). -/
theorem State.holdoverCrossing_first {s : State} {src : Source} {c : Crossing}
    (near : ¬ 50 < magnitude (s.phaseError src c)) (first : s.st.goodCrossings = 0) :
    s.holdoverCrossing src c = { s with st := { s.st with goodCrossings := 1 } } := by
  simp [State.holdoverCrossing, near, first]

/-- The second error of at most 50 in a row locks the tracker, and the crossing is taken as in LOCKED (R30). -/
theorem State.holdoverCrossing_second {s : State} {src : Source} {c : Crossing}
    (near : ¬ 50 < magnitude (s.phaseError src c)) (second : s.st.goodCrossings ≠ 0) :
    s.holdoverCrossing src c =
      ({ s with st := { s.st with goodCrossings := 2 } }.enterLocked src).followCrossing c (s.phaseError src c) := by
  simp [State.holdoverCrossing, near, second]

/-! ### The tracker's state -/

theorem State.trackCrossing_seek {s : State} {src : Source} (c : Crossing) (active : s.st.active = some src)
    (seek : s.st.tracker = .seek) : s.trackCrossing src c = s.seekCrossing src c := by
  simp [State.trackCrossing, active, seek]

theorem State.trackCrossing_locked {s : State} {src : Source} (c : Crossing) (active : s.st.active = some src)
    (locked : s.st.tracker = .locked) : s.trackCrossing src c = s.followCrossing c (s.phaseError src c) := by
  simp [State.trackCrossing, active, locked]

theorem State.trackCrossing_holdover {s : State} {src : Source} (c : Crossing) (active : s.st.active = some src)
    (holdover : s.st.tracker = .holdover) : s.trackCrossing src c = s.holdoverCrossing src c := by
  simp [State.trackCrossing, active, holdover]

/-! ### What a crossing leaves -/

@[simp] theorem State.correctPhase_leaves (s : State) (e : Int) :
    (s.correctPhase e).st.sources = s.st.sources ∧ (s.correctPhase e).st.vamp = s.st.vamp := by
  simp only [State.correctPhase]
  (repeat' split) <;> simp

@[simp] theorem State.followCrossing_leaves (s : State) (c : Crossing) (e : Int) :
    (s.followCrossing c e).st.sources = s.st.sources ∧ (s.followCrossing c e).st.vamp = s.st.vamp := by
  simp only [State.followCrossing]
  (repeat' split) <;> simp

@[simp] theorem State.seekCrossing_sources (s : State) (src : Source) (c : Crossing) :
    (s.seekCrossing src c).st.sources = s.st.sources := by
  simp only [State.seekCrossing]
  (repeat' split) <;> simp

@[simp] theorem State.holdoverCrossing_sources (s : State) (src : Source) (c : Crossing) :
    (s.holdoverCrossing src c).st.sources = s.st.sources := by
  simp only [State.holdoverCrossing]
  (repeat' split) <;> simp

@[simp] theorem State.trackCrossing_sources (s : State) (src : Source) (c : Crossing) :
    (s.trackCrossing src c).st.sources = s.st.sources := by
  simp only [State.trackCrossing]
  (repeat' split) <;> simp

/-- The given amplitude stays, or an entry into LOCKED makes it the amplitude of the source (R26, R30). -/
theorem State.trackCrossing_vamp (s : State) (src : Source) (c : Crossing) :
    (s.trackCrossing src c).st.vamp = s.st.vamp ∨ (s.trackCrossing src c).st.vamp = (s.source src).amplitude := by
  simp only [State.trackCrossing, State.seekCrossing, State.holdoverCrossing]
  (repeat' split) <;> simp [State.source]

/-- The tracker has only just taken up its active source, so one crossing does not lock it. -/
def State.freshlyActive (s : State) : Prop :=
  s.st.tracker = .seek ∧ s.st.window = [] ∨ s.st.tracker = .holdover ∧ s.st.goodCrossings = 0

/-- One crossing of a source just taken up leaves the given amplitude as it was (R25, R30). -/
theorem State.trackCrossing_vamp_of_fresh {s : State} {src : Source} (c : Crossing)
    (fresh : s.st.active = some src → s.freshlyActive) : (s.trackCrossing src c).st.vamp = s.st.vamp := by
  by_cases active : s.st.active = some src
  · obtain ⟨seek, window⟩ | ⟨holdover, good⟩ := fresh active
    · rw [State.trackCrossing_seek c active seek]
      by_cases bad : ∀ q, c.period = some q → validPeriod q = false
      · rw [State.seekCrossing_bad src bad]
      · push Not at bad
        obtain ⟨q, period, valid⟩ := bad
        rw [State.seekCrossing_joins src period (by simpa using valid) (by simp [window])]
    · rw [State.trackCrossing_holdover c active holdover]
      by_cases far : 50 < magnitude (s.phaseError src c)
      · rw [State.holdoverCrossing_far far]; simp
      · rw [State.holdoverCrossing_first far good]
  · simp [State.trackCrossing, active]

/-- The second good crossing in HOLDOVER is taken as in LOCKED from the state that the tracker enters (R30). -/
theorem State.holdoverCrossing_relocks {s : State} {src : Source} {c : Crossing}
    (near : ¬ 50 < magnitude (s.phaseError src c)) (second : s.st.goodCrossings ≠ 0) :
    ∃ w : State, s.holdoverCrossing src c = w.followCrossing c (s.phaseError src c) ∧ w.st.tracker = .locked ∧
      w.st.holdoverTimer = none ∧ w.st.period = s.st.period ∧ w.st.phase = s.st.phase ∧
      w.st.vamp = (s.source src).amplitude :=
  ⟨_, State.holdoverCrossing_second near second, by simp [State.source]⟩

/-- With a new P in its range the tracker stays LOCKED, with P and the phase as R28 says. -/
theorem State.holdoverCrossing_locks {s : State} {src : Source} {c : Crossing}
    (near : ¬ 50 < magnitude (s.phaseError src c)) (second : s.st.goodCrossings ≠ 0)
    (kept : c.period = none ∨ validPeriod (s.followed c) = true) :
    let t := s.holdoverCrossing src c
    t.st.tracker = .locked ∧ t.st.holdoverTimer = none ∧ t.st.stepLoss = 0 ∧ t.st.period = s.followed c ∧
      t.st.phase = (s.st.phase + s.phaseError src c / 4 * 65536) % cycle ∧ t.st.vamp = (t.source src).amplitude := by
  have sources : (s.holdoverCrossing src c).st.sources = s.st.sources := s.holdoverCrossing_sources src c
  obtain ⟨w, relocked, tracker, timer, period, phase, vamp⟩ := State.holdoverCrossing_relocks near second
  have same := State.followed_of_period period c
  dsimp only
  rw [State.source_of_sources sources, relocked, State.followCrossing_kept _ (by rwa [same]),
    State.correctPhase_near near]
  exact ⟨tracker, timer, rfl, same, by rw [← phase], vamp⟩

/-- With a new P outside its range the tracker seeks (log 41). -/
theorem State.holdoverCrossing_gives_up {s : State} {src : Source} {c : Crossing}
    (near : ¬ 50 < magnitude (s.phaseError src c)) (second : s.st.goodCrossings ≠ 0)
    (lost : ¬ (c.period = none ∨ validPeriod (s.followed c) = true)) :
    (s.holdoverCrossing src c).st.tracker = .seek ∧ (s.holdoverCrossing src c).st.period = s.st.period := by
  obtain ⟨w, relocked, -, -, period, -, -⟩ := State.holdoverCrossing_relocks near second
  rw [relocked, State.followCrossing_lost _ (by rwa [State.followed_of_period period])]
  obtain ⟨tracker, kept, -⟩ := w.enterSeek_where
  exact ⟨tracker, kept.trans period⟩

/-! ### Every way into SEEK -/

theorem State.correctPhase_seeks {s : State} {e : Int} (was : s.st.tracker ≠ .seek)
    (seek : (s.correctPhase e).st.tracker = .seek) : s.SeeksAnew (s.correctPhase e) := by
  by_cases far : 50 < magnitude e
  · by_cases many : 2 ≤ s.st.stepLoss
    · exact (State.correctPhase_lost far many).1
    · rw [State.correctPhase_far far (by omega)] at seek
      exact absurd seek was
  · rw [State.correctPhase_near far] at seek
    exact absurd seek was

theorem State.followCrossing_seeks {s : State} {c : Crossing} {e : Int} (was : s.st.tracker ≠ .seek)
    (seek : (s.followCrossing c e).st.tracker = .seek) : s.SeeksAnew (s.followCrossing c e) := by
  by_cases kept : c.period = none ∨ validPeriod (s.followed c) = true
  · rw [State.followCrossing_kept e kept] at seek ⊢
    refine (State.correctPhase_seeks ?_ seek).after (.of_fc rfl rfl) rfl
    exact was
  · rw [State.followCrossing_lost e kept]
    exact s.enterSeek_seeksAnew

theorem State.holdoverCrossing_seeks {s : State} {src : Source} {c : Crossing} (was : s.st.tracker ≠ .seek)
    (seek : (s.holdoverCrossing src c).st.tracker = .seek) : s.SeeksAnew (s.holdoverCrossing src c) := by
  by_cases far : 50 < magnitude (s.phaseError src c)
  · rw [State.holdoverCrossing_far far]
    exact s.enterSeek_seeksAnew
  · by_cases good : s.st.goodCrossings = 0
    · rw [State.holdoverCrossing_first far good] at seek
      exact absurd seek was
    · rw [State.holdoverCrossing_second far good] at seek ⊢
      exact (State.followCrossing_seeks (by simp) seek).after
        ((State.SupplyFollows.enterLocked _ src).after (.of_fc rfl rfl)) (by simp)

/-- Whenever a crossing brings the tracker to SEEK, it has entered it anew. -/
theorem State.trackCrossing_seeks {s : State} {src : Source} {c : Crossing} (was : s.st.tracker ≠ .seek)
    (seek : (s.trackCrossing src c).st.tracker = .seek) : s.SeeksAnew (s.trackCrossing src c) := by
  by_cases active : s.st.active = some src
  · cases tracker : s.st.tracker with
    | seek => exact absurd tracker was
    | locked =>
      rw [State.trackCrossing_locked c active tracker] at seek ⊢
      exact State.followCrossing_seeks was seek
    | holdover =>
      rw [State.trackCrossing_holdover c active tracker] at seek ⊢
      exact State.holdoverCrossing_seeks was seek
    | off => simp [State.trackCrossing, tracker] at seek
    | fault => simp [State.trackCrossing, tracker] at seek
  · exact absurd (by simpa [State.trackCrossing, active] using seek) was

end Sys2Proof.Machine
end

section
/-! PROOF. A valid sample on the lane of a ranked source: the lane, the pacing, the detectors, and the half cycle that a
crossing closes (sections 2.1 to 2.4). -/

namespace Sys2Proof.Machine

/-! ### The arrival -/

@[simp] theorem laneUse_sourceLane (src : Source) : laneUse (sourceLane src) = .source src := by
  revert src; decide

theorem State.laneFresh_of_li {s t : State} (e : t.li = s.li) (l : Lane) : t.laneFresh l = s.laneFresh l := by
  simp [State.laneFresh, State.lane_of_li e]

theorem State.takeArrival_lane {raw : Word16} (s : State) (l : Lane) (valid : validCode raw = true) :
    (s.takeArrival l raw).lane l = { (s.lane l).good (s.scaled l raw) with silence := s.after 300 } := by
  simp [State.takeArrival, valid]

/-- A valid sample changes the health of an AC lane to FRESH at most, which the timebase does not act on (R4, R15). -/
theorem State.handHealth_valid {raw : Word16} (s : State) (src : Source) (valid : validCode raw = true) (d : Int) :
    (s.takeArrival (sourceLane src) raw).handHealth (sourceLane src) (s.lane (sourceLane src)).health d =
      s.takeArrival (sourceLane src) raw := by
  have lane := s.takeArrival_lane (sourceLane src) valid
  unfold State.handHealth
  split
  · rfl
  next changed =>
    rw [lane] at changed
    have fresh : (s.takeArrival (sourceLane src) raw).laneFresh (sourceLane src) = true := by
      simp only [LaneRec.good] at changed
      simp only [State.laneFresh, lane, LaneRec.good]
      split at changed
      next full => simp [full]
      next => exact absurd rfl changed
    have stale : (s.lane (sourceLane src)).health ≠ .fresh := fun was => by
      simp [LaneRec.good, was] at changed
    simp [stale, State.healthChanged, State.sourceHealth, fresh]

/-- The pacing of an arrival: a phase step on the pacing lane, and a new choice of that lane after a silence (R21). -/
def State.paced (s : State) (src : Source) (wasSilent : Bool) : State :=
  let s := if s.st.tracker != .off && s.st.pacing == some src then s.advance 1 else s
  if wasSilent then s.choosePacing else s

/-- The state in which the detectors find a valid sample. -/
def State.heardSample (s : State) (src : Source) (raw : Word16) : State :=
  ((s.takeArrival (sourceLane src) raw).paced src (s.silent (sourceLane src))).modSource src fun r =>
    { r with sinceCrossing := r.sinceCrossing.map (· + 1) }

@[simp] theorem State.paced_frame (s : State) (src : Source) (b : Bool) : s.onlySt (s.paced src b) := by
  unfold State.onlySt
  simp only [State.paced]
  (repeat' split) <;> simp

theorem exec_sampleArrival_source {src : Source} {raw : Word16} {s : State} (ranked : src ∈ s.ranked)
    (valid : raw ≠ 32768) :
    exec (.sampleArrival (sourceLane src) raw) s =
      .next ((s.heardSample src raw).detect src (s.scaled (sourceLane src) raw)) := by
  have code : validCode raw = true := by simpa [validCode] using valid
  have list : (s.takeArrival (sourceLane src) raw).ranked = s.ranked := State.ranked_of_cl (by simp)
  have value : ((s.heardSample src raw).lane (sourceLane src)).value = s.scaled (sourceLane src) raw := by
    rw [State.lane_of_li (s := s.takeArrival (sourceLane src) raw) (by simp [State.heardSample]),
      s.takeArrival_lane _ code]
    rfl
  have arrival : s.arrive (sourceLane src) raw =
      (s.takeArrival (sourceLane src) raw).sourceArrival src true (s.silent (sourceLane src)) := by
    simp [State.arrive, code, State.derive, s.handHealth_valid src code, State.notice, list, ranked]
  rw [← value]
  exact congrArg Host.Outcome.next arrival

/-! ### What an arrival leaves before a crossing is judged -/

/-- The phase after the pacing of an arrival (R21). -/
def State.pacedPhase (s : State) (src : Source) : Int :=
  if s.st.tracker ≠ .off ∧ s.st.pacing = some src then (s.st.phase + phaseStep s.st.period) % cycle else s.st.phase

/-- The second state comes from the first by an arrival on the lane of a source, before the tracker acts on it: the
other sources and the tracker are as they were, and the phase is paced. -/
structure State.Heard (s t : State) (src : Source) : Prop where
  others : ∀ src', src' ≠ src → t.source src' = s.source src'
  clock : t.clock = s.clock
  cl : t.cl = s.cl
  tracker : t.st.tracker = s.st.tracker
  active : t.st.active = s.st.active
  window : t.st.window = s.st.window
  stepLoss : t.st.stepLoss = s.st.stepLoss
  goodCrossings : t.st.goodCrossings = s.st.goodCrossings
  period : t.st.period = s.st.period
  phase : t.st.phase = s.pacedPhase src
  follows : s.SupplyFollows t

/-- A further operation that leaves the other sources and the tracker as they are. -/
theorem State.Heard.step {s t u : State} {src : Source} (h : s.Heard t src)
    (others : ∀ src', src' ≠ src → u.source src' = t.source src') (blocks : u.clock = t.clock ∧ u.cl = t.cl)
    (record : u.st.tracker = t.st.tracker ∧ u.st.active = t.st.active ∧ u.st.window = t.st.window ∧
      u.st.stepLoss = t.st.stepLoss ∧ u.st.goodCrossings = t.st.goodCrossings ∧ u.st.period = t.st.period ∧
      u.st.phase = t.st.phase)
    (follows : t.SupplyFollows u) : s.Heard u src := by
  obtain ⟨clock, cl⟩ := blocks
  obtain ⟨tracker, active, window, stepLoss, good, period, phase⟩ := record
  exact ⟨fun src' ne => (others src' ne).trans (h.others src' ne), clock.trans h.clock, cl.trans h.cl,
    tracker.trans h.tracker, active.trans h.active, window.trans h.window, stepLoss.trans h.stepLoss,
    good.trans h.goodCrossings, period.trans h.period, phase.trans h.phase, h.follows.trans follows⟩

theorem State.Heard.modSource {s t : State} {src : Source} (h : s.Heard t src) (f : SourceRec → SourceRec) :
    s.Heard (t.modSource src f) src :=
  h.step (fun _ ne => t.modSource_source_ne f ne) (by simp) (by simp) (.modSource t src f)

theorem State.Heard.choosePacing {s t : State} {src : Source} (h : s.Heard t src) : s.Heard t.choosePacing src :=
  h.step (fun src' _ => State.source_of_sources (by simp) src') (by simp) (by simp) (.of_fc (by simp) (by simp))

theorem State.Heard.giveVamp {s t : State} {src : Source} (h : s.Heard t src) (v : Int) :
    s.Heard (t.giveVamp v) src :=
  h.step (fun src' _ => State.source_of_sources (by simp) src') (by simp) (by simp) (.giveVamp t v)

theorem State.paced_leaves (s : State) (src : Source) (b : Bool) :
    (s.paced src b).st.sources = s.st.sources ∧ (s.paced src b).st.vamp = s.st.vamp := by
  simp only [State.paced]
  (repeat' split) <;> simp [State.advance]

theorem State.paced_heard (s : State) (src : Source) (b : Bool) : s.Heard (s.paced src b) src := by
  have stepped : s.Heard (if s.st.tracker != .off && s.st.pacing == some src then s.advance 1 else s) src := by
    by_cases paces : s.st.tracker ≠ .off ∧ s.st.pacing = some src
    · rw [if_pos (by simpa using paces)]
      exact ⟨fun _ _ => rfl, rfl, rfl, rfl, rfl, rfl, rfl, rfl, rfl, by simp [State.pacedPhase, paces, State.advance],
        .of_fc rfl rfl⟩
    · rw [if_neg (by simpa using paces)]
      exact ⟨fun _ _ => rfl, rfl, rfl, rfl, rfl, rfl, rfl, rfl, rfl, (if_neg paces).symm, .refl s⟩
  simp only [State.paced]
  split
  · exact stepped.choosePacing
  · exact stepped

theorem State.heardSample_source (s : State) (src : Source) (raw : Word16) :
    (s.heardSample src raw).source src =
      { s.source src with sinceCrossing := (s.source src).sinceCrossing.map (· + 1) } := by
  rw [State.heardSample, State.modSource_source_self, State.source_of_sources (State.paced_leaves _ src _).1,
    State.source_of_st (s := s) (by simp)]

theorem State.heardSample_heard (s : State) (src : Source) (raw : Word16) :
    (s.heardSample src raw).st.vamp = s.st.vamp ∧ s.Heard (s.heardSample src raw) src := by
  let u := s.takeArrival (sourceLane src) raw
  have st : u.st = s.st := by simp [u]
  have vamp := (u.paced_leaves src (s.silent (sourceLane src))).2
  obtain ⟨others, clock, cl, tracker, active, window, stepLoss, good, period, phase, follows⟩ :=
    (u.paced_heard src (s.silent (sourceLane src))).modSource
      fun r => { r with sinceCrossing := r.sinceCrossing.map (· + 1) }
  refine ⟨vamp.trans (by rw [st]), fun src' ne => (others src' ne).trans (State.source_of_st st src'),
    clock.trans (by simp [u]), cl.trans (by simp [u]), tracker.trans (by rw [st]), active.trans (by rw [st]),
    window.trans (by rw [st]), stepLoss.trans (by rw [st]), good.trans (by rw [st]), period.trans (by rw [st]),
    phase.trans (by simp only [State.pacedPhase, st]), .trans (.of_fc (by simp [u]) (by rw [st])) follows⟩

/-! ### The half cycle at a crossing -/

/-- The record after its half cycle is closed (R18). -/
theorem SourceRec.closeHalf_eq (r : SourceRec) (vsq : Int) :
    r.closeHalf vsq =
      { r with
        amplitude := if r.halfOpen then r.peak * 181 / 256 else r.amplitude,
        lowCount :=
          if r.halfOpen then if r.counts ∧ r.peak * 181 / 256 < vsq then min 2 (r.lowCount + 1) else 0
          else r.lowCount,
        goodCount :=
          if r.halfOpen then
            if r.counts ∧ vsq + vsq / 8 ≤ r.peak * 181 / 256 ∧ vsq ≤ r.peak * 181 / 256 then min 4 (r.goodCount + 1)
            else 0
          else r.goodCount } := by
  cases closes : r.halfOpen
  · simp [SourceRec.closeHalf, closes]
    rw [← closes]
  · cases counts : r.counts
    · simp [SourceRec.closeHalf, SourceRec.counted, closes, counts]
    · rcases lt_or_ge (r.peak * 181 / 256) vsq with low | notLow
      · simp [SourceRec.closeHalf, SourceRec.counted, closes, counts, low]
      · rcases lt_or_ge (r.peak * 181 / 256) (vsq + vsq / 8) with short | good
        · simp [SourceRec.closeHalf, SourceRec.counted, closes, counts, notLow.not_gt, short, short.not_ge]
        · simp [SourceRec.closeHalf, SourceRec.counted, closes, counts, notLow, notLow.not_gt, good, good.not_gt]

/-- The record of a source after a crossing: its half cycle closed and judged, and the next one begun (R18, R19, R20). -/
def SourceRec.afterHalf (r : SourceRec) (vsq sample : Int) (fresh : Bool) (watch : Timer) : SourceRec :=
  let c := r.closeHalf vsq
  { c with
    squelched :=
      if r.halfOpen ∧ r.squelched = false ∧ c.lowCount = 2 then true
      else if r.halfOpen ∧ r.squelched = true ∧ c.goodCount = 4 then false
      else r.squelched,
    halfOpen := true, peak := magnitude sample, counts := fresh, watch }

/-- The first half of a crossing in the amplitude rules: the half cycle is closed and the next one begun (R18). -/
def State.halfClosed (s : State) (src : Source) (sample : Int) : State :=
  s.modSource src fun r =>
    { r.closeHalf s.settings.timebase.vsq with
      halfOpen := true, peak := magnitude sample, counts := s.laneFresh (sourceLane src), watch := s.after s.watchTime }

/-- The amplitude of a half cycle of this source becomes the given one (R33). -/
def State.givesVamp (s : State) (src : Source) : Bool :=
  (s.source src).halfOpen && s.st.active == some src && (s.st.tracker == .seek || s.st.tracker == .locked)

/-- The crossing in the amplitude rules up to the given amplitude (R33). -/
def State.halfGiven (s : State) (src : Source) (sample : Int) : State :=
  let u := s.halfClosed src sample
  if s.givesVamp src then u.giveVamp (u.source src).amplitude else u

theorem SourceRec.closeHalf_squelched (r : SourceRec) (vsq : Int) : (r.closeHalf vsq).squelched = r.squelched := by
  rw [SourceRec.closeHalf_eq]

theorem State.halfClosed_source (s : State) (src : Source) (sample : Int) :
    (s.halfClosed src sample).source src =
      { (s.source src).closeHalf s.settings.timebase.vsq with
        halfOpen := true, peak := magnitude sample, counts := s.laneFresh (sourceLane src),
        watch := s.after s.watchTime } := s.modSource_source_self src _

theorem State.halfGiven_source (s : State) (src : Source) (sample : Int) :
    (s.halfGiven src sample).source src =
      { (s.source src).closeHalf s.settings.timebase.vsq with
        halfOpen := true, peak := magnitude sample, counts := s.laneFresh (sourceLane src),
        watch := s.after s.watchTime } := by
  simp only [State.halfGiven]
  split
  · rw [State.source_of_sources (s := s.halfClosed src sample) (by simp), s.halfClosed_source]
  · exact s.halfClosed_source src sample

/-- The crossing is judged by the counts of the half cycle it closed (R19, R20). -/
theorem State.crossAmplitude_eq (s : State) (src : Source) (sample : Int) :
    s.crossAmplitude src sample =
      let r := s.source src
      let c := r.closeHalf s.settings.timebase.vsq
      if r.halfOpen ∧ r.squelched = false ∧ c.lowCount = 2 then (s.halfGiven src sample).squelch src
      else if r.halfOpen ∧ r.squelched = true ∧ c.goodCount = 4 then (s.halfGiven src sample).unsquelch src
      else s.halfGiven src sample := by
  have judged : s.crossAmplitude src sample =
      let r := (s.halfClosed src sample).source src
      if (s.source src).halfOpen && !r.squelched && r.lowCount == 2 then (s.halfGiven src sample).squelch src
      else if (s.source src).halfOpen && r.squelched && r.goodCount == 4 then (s.halfGiven src sample).unsquelch src
      else s.halfGiven src sample := rfl
  rw [judged, s.halfClosed_source]
  simp [SourceRec.closeHalf_squelched, and_assoc]

theorem State.halfGiven_heard (s : State) (src : Source) (sample : Int) {b : State} (h : b.Heard s src) :
    b.Heard (s.halfGiven src sample) src := by
  simp only [State.halfGiven]
  split
  · exact (h.modSource _).giveVamp _
  · exact h.modSource _

theorem State.halfGiven_vamp (s : State) (src : Source) (sample : Int) :
    (s.halfGiven src sample).st.vamp =
      if s.givesVamp src then ((s.halfGiven src sample).source src).amplitude else s.st.vamp := by
  rw [s.halfGiven_source]
  simp only [State.halfGiven]
  split
  · rw [State.giveVamp_st, s.halfClosed_source]
  · rfl

@[simp] theorem State.trackerGains_st (s : State) (src : Source) :
    (s.trackerGains src).st.sources = s.st.sources ∧ (s.trackerGains src).st.vamp = s.st.vamp := by
  unfold State.trackerGains
  split <;> simp

theorem State.unsquelch_source_self (s : State) (src : Source) :
    (s.unsquelch src).source src = { s.source src with squelched := false } := by
  rw [State.unsquelch, State.source_of_sources (State.trackerGains_st _ src).1, State.modSource_source_self]

theorem State.unsquelch_source_ne (s : State) {src src' : Source} (ne : src' ≠ src) :
    (s.unsquelch src).source src' = s.source src' := by
  rw [State.unsquelch, State.source_of_sources (State.trackerGains_st _ src).1, State.modSource_source_ne _ _ ne]

/-- A source that becomes CLEAR while another is active, or none, is only taken up (R25, R30). -/
theorem State.unsquelch_fresh {s : State} {src : Source} (active : s.st.active ≠ some src) :
    (s.unsquelch src).st.active = some src → (s.unsquelch src).freshlyActive := by
  intro now
  unfold State.unsquelch State.trackerGains at now ⊢
  split at now
  next seek => exact .inl ⟨by simpa using seek, by simp⟩
  next holdover => exact .inr ⟨by simpa using holdover, by simp⟩
  next => exact absurd (by simpa using now) active

/-- What a crossing of a source with a record `r` before it has done: the record, the other sources, the given amplitude
and SUPPLY (R18, R19, R20, R33). -/
structure State.Crossed (s t : State) (src : Source) (r : SourceRec) (sample : Int) : Prop where
  self : t.source src =
    r.afterHalf s.settings.timebase.vsq sample (t.laneFresh (sourceLane src)) (s.after s.watchTime)
  others : ∀ src', src' ≠ src → t.source src' = s.source src'
  given : r.halfOpen = true → s.st.active = some src → s.st.tracker = .seek ∨ s.st.tracker = .locked →
    t.st.vamp = r.peak * 181 / 256
  kept : s.st.active ≠ some src → t.st.vamp = s.st.vamp
  follows : s.SupplyFollows t

theorem SourceRec.closeHalf_amplitude {r : SourceRec} (vsq : Int) (closes : r.halfOpen = true) :
    (r.closeHalf vsq).amplitude = r.peak * 181 / 256 := by
  rw [SourceRec.closeHalf_eq]; simp [closes]

theorem State.halfGiven_vamp_given {s : State} {src : Source} (sample : Int) (closes : (s.source src).halfOpen = true)
    (active : s.st.active = some src) (tracker : s.st.tracker = .seek ∨ s.st.tracker = .locked) :
    (s.halfGiven src sample).st.vamp = (s.source src).peak * 181 / 256 := by
  rw [s.halfGiven_vamp, if_pos (by simpa [State.givesVamp, closes, active] using tracker), s.halfGiven_source]
  exact SourceRec.closeHalf_amplitude _ closes

theorem State.halfGiven_vamp_kept {s : State} {src : Source} (sample : Int)
    (h : s.st.active ≠ some src ∨ s.st.tracker ≠ .seek ∧ s.st.tracker ≠ .locked) :
    (s.halfGiven src sample).st.vamp = s.st.vamp := by
  rw [s.halfGiven_vamp, if_neg]
  simp only [State.givesVamp]
  simp_all; tauto

theorem State.crossAmplitude_source (s : State) (src : Source) (sample : Int) :
    (s.crossAmplitude src sample).source src =
      (s.source src).afterHalf s.settings.timebase.vsq sample (s.laneFresh (sourceLane src)) (s.after s.watchTime) := by
  rw [s.crossAmplitude_eq]
  unfold SourceRec.afterHalf
  dsimp only
  split
  · rw [State.squelch_source_self, s.halfGiven_source]
  · split
    · rw [State.unsquelch_source_self, s.halfGiven_source]
    · rw [s.halfGiven_source, ← SourceRec.closeHalf_squelched (s.source src) s.settings.timebase.vsq]

/-- What holds of a squelch, of a clearing and of neither holds of the amplitude rules at a crossing. -/
theorem State.crossAmplitude_cases {P : State → Prop} (s : State) (src : Source) (sample : Int)
    (squelch : P ((s.halfGiven src sample).squelch src)) (clear : P ((s.halfGiven src sample).unsquelch src))
    (neither : P (s.halfGiven src sample)) : P (s.crossAmplitude src sample) := by
  rw [s.crossAmplitude_eq]
  dsimp only
  split
  · exact squelch
  · split
    · exact clear
    · exact neither

theorem State.halfGiven_active (s : State) (src : Source) (sample : Int) :
    (s.halfGiven src sample).st.active = s.st.active := by
  simp only [State.halfGiven, State.halfClosed]
  split <;> simp

/-- A source that is not the active one is at most taken up by the tracker at its crossing. -/
theorem State.crossAmplitude_fresh {s : State} {src : Source} (sample : Int) (active : s.st.active ≠ some src) :
    (s.crossAmplitude src sample).st.active = some src → (s.crossAmplitude src sample).freshlyActive := by
  have before : (s.halfGiven src sample).st.active ≠ some src := by rwa [s.halfGiven_active]
  refine s.crossAmplitude_cases (P := fun t => t.st.active = some src → t.freshlyActive) src sample ?_ ?_ ?_
  · exact fun now => absurd ((State.squelch_unheard (.inl before)).2.1 ▸ now) before
  · exact State.unsquelch_fresh before
  · exact fun now => absurd now before

/-- The amplitude rules at a crossing (R18, R19, R20, R33). -/
theorem State.Heard.crossed {s b : State} {src : Source} (h : s.Heard b src) (vamp : b.st.vamp = s.st.vamp)
    (sample : Int) : s.Crossed (b.crossAmplitude src sample) src (b.source src) sample := by
  have given := b.halfGiven_heard src sample h
  have vampKept : (b.crossAmplitude src sample).st.vamp = (b.halfGiven src sample).st.vamp :=
    b.crossAmplitude_cases (P := fun t => t.st.vamp = (b.halfGiven src sample).st.vamp) src sample (by simp)
      (by simp [State.unsquelch]) rfl
  refine ⟨?_, fun src' ne => ?_, fun closes active tracker => ?_, fun active => ?_, ?_⟩
  · rw [b.crossAmplitude_source, State.laneFresh_of_li (s := b) (t := b.crossAmplitude src sample) (by simp)]
    simp only [State.after, State.watchTime, h.clock, State.settings_of_cl h.cl]
  · have others := given.others src' ne
    exact b.crossAmplitude_cases (P := fun t => t.source src' = s.source src') src sample
      ((State.squelch_source_ne _ ne).trans others) ((State.unsquelch_source_ne _ ne).trans others) others
  · rw [vampKept]
    exact State.halfGiven_vamp_given sample closes (h.active.trans active) (by rwa [h.tracker])
  · rw [vampKept, State.halfGiven_vamp_kept sample (.inl (by rwa [h.active])), vamp]
  · exact b.crossAmplitude_cases (P := s.SupplyFollows) src sample (given.follows.trans (.squelch _ src))
      (given.follows.trans (.unsquelch _ src)) given.follows

/-- The tracker at a crossing leaves what the amplitude rules have done (R25 to R30). -/
theorem State.Crossed.track {s u : State} {src : Source} {r : SourceRec} {sample : Int}
    (h : s.Crossed u src r sample) (c : Crossing)
    (fresh : s.st.active ≠ some src → u.st.active = some src → u.freshlyActive) :
    s.Crossed (u.trackCrossing src c) src r sample := by
  have source (src' : Source) : (u.trackCrossing src c).source src' = u.source src' :=
    State.source_of_sources (u.trackCrossing_sources src c) src'
  refine ⟨?_, fun src' ne => (source src').trans (h.others src' ne), fun closes active tracker => ?_, fun active => ?_,
    h.follows.trans (.trackCrossing u src c)⟩
  · rw [source, h.self, State.laneFresh_of_li (s := u) (t := u.trackCrossing src c) (by simp)]
  · have amplitude : (u.source src).amplitude = r.peak * 181 / 256 := by
      rw [h.self]
      exact SourceRec.closeHalf_amplitude _ closes
    have vamp := h.given closes active tracker
    exact (u.trackCrossing_vamp src c).elim (·.trans vamp) (·.trans amplitude)
  · rw [State.trackCrossing_vamp_of_fresh c (fresh active), h.kept active]

/-! ### The detectors -/

/-- The record at a positive crossing: its detector disarmed, and the crossing kept to measure the next period from
(R17, R22). -/
def SourceRec.markPositive (r : SourceRec) (sample : Int) : SourceRec :=
  { r with
    posArmed := false, sinceCrossing := some 0, fraction := (r.crossing sample).fraction, prev := some sample,
    invalidSince := 0 }

/-- The record at a negative crossing (R17). -/
def SourceRec.markNegative (r : SourceRec) (sample : Int) : SourceRec :=
  { r with negArmed := false, prev := some sample, invalidSince := 0 }

theorem State.modSource_modSource (s : State) (src : Source) (f g : SourceRec → SourceRec) :
    (s.modSource src f).modSource src g = s.modSource src fun r => g (f r) := by
  simp [State.modSource, State.source]

theorem State.positiveCrossing_eq (s : State) (src : Source) (sample : Int) :
    s.positiveCrossing src sample =
      let u := (s.modSource src (·.markPositive sample)).crossAmplitude src sample
      if u.clearSource src then u.trackCrossing src ((s.source src).crossing sample) else u := rfl

theorem State.negativeCrossing_eq (s : State) (src : Source) (sample : Int) :
    s.negativeCrossing src sample = (s.modSource src (·.markNegative sample)).crossAmplitude src sample := by
  simp [State.negativeCrossing, State.keepSample, State.modSource_modSource, SourceRec.markNegative]

theorem State.Heard.positive {s b : State} {src : Source} (h : s.Heard b src) (vamp : b.st.vamp = s.st.vamp)
    (sample : Int) :
    s.Crossed (b.positiveCrossing src sample) src ((b.source src).markPositive sample) sample := by
  have marked := h.modSource (·.markPositive sample)
  have crossed := marked.crossed vamp sample
  rw [State.modSource_source_self] at crossed
  rw [State.positiveCrossing_eq]
  dsimp only
  split
  · exact crossed.track _ fun active => State.crossAmplitude_fresh sample (by rwa [marked.active])
  · exact crossed

theorem State.Heard.negative {s b : State} {src : Source} (h : s.Heard b src) (vamp : b.st.vamp = s.st.vamp)
    (sample : Int) :
    s.Crossed (b.negativeCrossing src sample) src ((b.source src).markNegative sample) sample := by
  have crossed := (h.modSource (·.markNegative sample)).crossed vamp sample
  rw [State.modSource_source_self] at crossed
  rwa [State.negativeCrossing_eq]

end Sys2Proof.Machine
end

section
/-! PROOF. The detectors at a valid sample, and the statement about crossings and half cycles (sections 2.2 and 2.3). -/

namespace Sys2Proof.Machine

/-- The crossing found by the detectors, in the order they are asked (R17). -/
theorem SourceRec.crosses_eq (r : SourceRec) (sample : Int) :
    r.crosses sample =
      if (r.prev.any fun p => r.posArmed && decide (p < 0) && decide (0 ≤ sample)) = true then some .positive
      else if (r.prev.any fun p => r.negArmed && decide (0 ≤ p) && decide (sample < 0)) = true then some .negative
      else none := by
  unfold SourceRec.crosses
  cases r.prev <;> simp [and_assoc]

/-- The detectors of a source armed by a sample (R17). -/
def State.armed (s : State) (src : Source) (sample : Int) : State :=
  s.modSource src fun r => r.arm (hysteresis s.settings.timebase.vnom) sample

theorem State.detect_positive {s : State} {src : Source} {sample : Int}
    (h : ((s.armed src sample).source src).crosses sample = some .positive) :
    s.detect src sample = (s.armed src sample).positiveCrossing src sample := by
  simp only [State.armed] at h ⊢
  simp only [State.detect, h]

theorem State.detect_negative {s : State} {src : Source} {sample : Int}
    (h : ((s.armed src sample).source src).crosses sample = some .negative) :
    s.detect src sample = (s.armed src sample).negativeCrossing src sample := by
  simp only [State.armed] at h ⊢
  simp only [State.detect, h]

/-- The record after a sample that makes no crossing: its half cycle's peak is raised (R17, R18). -/
def SourceRec.keep (r : SourceRec) (sample : Int) : SourceRec :=
  { r with
    peak := if r.halfOpen then max r.peak (magnitude sample) else r.peak, prev := some sample, invalidSince := 0 }

theorem State.detect_none {s : State} {src : Source} {sample : Int}
    (h : ((s.armed src sample).source src).crosses sample = none) :
    s.detect src sample = (s.armed src sample).modSource src (·.keep sample) := by
  simp only [State.armed] at h ⊢
  simp only [State.detect, h]
  exact State.modSource_modSource _ _ _ _

theorem State.heardSample_armed (s : State) (src : Source) (raw : Word16) (v : Int) :
    ((s.heardSample src raw).armed src v).source src =
      { (s.source src).arm (hysteresis s.settings.timebase.vnom) v with
        sinceCrossing := (s.source src).sinceCrossing.map (· + 1) } := by
  obtain ⟨-, heard⟩ := s.heardSample_heard src raw
  rw [State.armed, State.modSource_source_self, s.heardSample_source, State.settings_of_cl heard.cl]
  rfl

/-- The frame of a valid sample on the lane of a ranked source. -/
theorem State.heardSample_detect_frame (s : State) (src : Source) (raw : Word16) (v : Int) :
    s.onlyLiStFcPpScRc ((s.heardSample src raw).detect src v) := by
  simp [State.onlyLiStFcPpScRc, State.heardSample]

/-- Settles O13: a crossing of either direction is one `Crossed` step from the armed record, and a sample that makes
none leaves what the arrival has paced. -/
theorem crossingsCloseHalfCycles : Obligations.CrossingsCloseHalfCycles := by
  unfold Obligations.CrossingsCloseHalfCycles
  intro src raw s ranked valid r v vhyst vsq a pos neg positive negative low good
  obtain ⟨vamp, heard⟩ := s.heardSample_heard src raw
  have armed := heard.modSource (fun r => r.arm (hysteresis (s.heardSample src raw).settings.timebase.vnom) v)
  have record : ((s.heardSample src raw).armed src v).source src =
      { r with posArmed := pos, negArmed := neg, sinceCrossing := r.sinceCrossing.map (· + 1) } :=
    s.heardSample_armed src raw v
  have crosses : (((s.heardSample src raw).armed src v).source src).crosses v =
      if positive = true then some .positive else if negative = true then some .negative else none := by
    rw [record, SourceRec.crosses_eq]
  refine ⟨_, exec_sampleArrival_source ranked valid, ?_⟩
  have frame := s.heardSample_detect_frame src raw v
  let x : SourceRec :=
    { r with
      posArmed := pos && !positive, negArmed := neg && !negative, prev := some v, invalidSince := 0,
      sinceCrossing := if positive then some 0 else r.sinceCrossing.map (· + 1),
      fraction := if positive then -r.prev.getD 0 * 65536 / (v - r.prev.getD 0) else r.fraction }
  have crossed (crossing : (positive || negative) = true) :
      s.Crossed ((s.heardSample src raw).detect src v) src x v := by
    cases isPositive : positive with
    | true =>
      obtain ⟨p, prev, found⟩ := (Option.any_eq_true _ _).mp isPositive
      obtain ⟨⟨-, before⟩, after⟩ : (pos = true ∧ p < 0) ∧ 0 ≤ v := by simpa using found
      have notNegative : negative = false := by simp [negative, prev, after.not_gt]
      have mark : (((s.heardSample src raw).armed src v).source src).markPositive v = x := by
        simp [record, SourceRec.markPositive, SourceRec.crossing, floorDiv, x, isPositive, notNegative, prev,
          show v - p ≠ 0 by omega]
      rw [State.detect_positive (crosses.trans (if_pos isPositive)), ← mark]
      exact armed.positive vamp v
    | false =>
      have isNegative : negative = true := by simpa [isPositive] using crossing
      have mark : (((s.heardSample src raw).armed src v).source src).markNegative v = x := by
        simp [record, SourceRec.markNegative, x, isPositive, isNegative]
      rw [State.detect_negative (by simp [crosses, isPositive, isNegative]), ← mark]
      exact armed.negative vamp v
  cases crossing : positive || negative with
  | true =>
    obtain ⟨self, others, given, kept, follows⟩ := crossed crossing
    refine ⟨fun _ => ?_, nofun, others, fun _ => given, fun h => kept (h.resolve_left nofun),
      fun changed g on => follows.agrees_of_changed changed g (mt (follows.off g).mp on), frame⟩
    rw [self, SourceRec.afterHalf, SourceRec.closeHalf_eq]
    rfl
  | false =>
    obtain ⟨isPositive, isNegative⟩ : positive = false ∧ negative = false := by simpa using crossing
    have outcome := State.detect_none (crosses.trans (by simp [isPositive, isNegative]))
    rw [outcome] at frame ⊢
    have kept := armed.modSource (·.keep v)
    refine ⟨nofun, fun _ => ⟨?_, kept.phase, kept.tracker, kept.active, kept.period⟩, kept.others, nofun,
      fun _ => vamp, fun changed => absurd vamp changed, frame⟩
    rw [State.modSource_source_self, record]
    rfl

end Sys2Proof.Machine
end

section
/-! PROOF. The statement about the tracker at a positive crossing of its active source (sections 2.5 and 2.6). -/

namespace Sys2Proof.Machine

/-- A half cycle that counted low for the first time, or was not low, does not squelch the source (R19). -/
theorem SourceRec.closeHalf_lowCount_ne {r : SourceRec} {vsq : Int} (h : r.lowCount = 0 ∨ vsq ≤ r.peak * 181 / 256)
    (closes : r.halfOpen = true) : (r.closeHalf vsq).lowCount ≠ 2 := by
  rw [SourceRec.closeHalf_eq]
  simp only [closes, if_true]
  split <;> omega

/-- A crossing of a CLEAR source that its half cycle does not squelch. -/
theorem State.crossAmplitude_steady {s : State} {src : Source} (sample : Int)
    (clear : (s.source src).squelched = false)
    (h : (s.source src).lowCount = 0 ∨ s.settings.timebase.vsq ≤ (s.source src).peak * 181 / 256) :
    s.crossAmplitude src sample = s.halfGiven src sample := by
  rw [s.crossAmplitude_eq]
  dsimp only
  rw [if_neg fun low => SourceRec.closeHalf_lowCount_ne h low.1 low.2.2, if_neg fun good => by simp [clear] at good]

/-- The crossing of two samples of opposite sign, after the arrival is counted (R17, R22). -/
theorem SourceRec.crossing_counted {r : SourceRec} {p sample : Int} (prev : r.prev = some p) (before : p < 0)
    (after : 0 ≤ sample) :
    ({ r with sinceCrossing := r.sinceCrossing.map (· + 1) } : SourceRec).crossing sample =
      { fraction := -p * 65536 / (sample - p), span := 1 + r.invalidSince,
        period := r.sinceCrossing.map fun k =>
          ((k : Int) + 1) * 1600 + (-p * 65536 / (sample - p) - r.fraction) * 1600 / 65536 } := by
  cases counted : r.sinceCrossing <;>
    simp [SourceRec.crossing, prev, floorDiv, show sample - p ≠ 0 by omega]

/-- The frame of a valid sample on the lane of a ranked source. -/
theorem exec_sampleArrival_frame {src : Source} {raw : Word16} {s t : State} (ranked : src ∈ s.ranked)
    (valid : raw ≠ 32768) (result : exec (.sampleArrival (sourceLane src) raw) s = .next t) :
    s.onlyLiStFcPpScRc t := by
  obtain rfl : _ = t := Host.Outcome.next.inj ((exec_sampleArrival_source ranked valid).symm.trans result)
  exact s.heardSample_detect_frame src raw _

theorem State.pacedPhase_of_on {s : State} (src : Source) (on : s.st.tracker ≠ .off) :
    s.pacedPhase src =
      if s.st.pacing = some src then (s.st.phase + phaseStep s.st.period) % cycle else s.st.phase := by
  simp [State.pacedPhase, on]

/-- A positive crossing of a CLEAR source that its half cycle does not squelch reaches the tracker (R17). -/
theorem exec_clearCrossing {src : Source} {raw : Word16} {p : Int} {s : State} (prev : (s.source src).prev = some p)
    (ranked : src ∈ s.ranked) (valid : raw ≠ 32768) (armed : (s.source src).posArmed = true) (before : p < 0)
    (after : 0 ≤ s.scaled (sourceLane src) raw) (clear : (s.source src).squelched = false)
    (steady : (s.source src).lowCount = 0 ∨ s.settings.timebase.vsq ≤ (s.source src).peak * 181 / 256) :
    ∃ u c, exec (.sampleArrival (sourceLane src) raw) s = .next (u.trackCrossing src c) ∧
      c = ({ s.source src with sinceCrossing := (s.source src).sinceCrossing.map (· + 1) } : SourceRec).crossing
        (s.scaled (sourceLane src) raw) ∧
      s.Heard u src ∧ (s.st.tracker = .holdover → u.st.vamp = s.st.vamp) := by
  let v := s.scaled (sourceLane src) raw
  let b := (s.heardSample src raw).armed src v
  have record : b.source src = _ := s.heardSample_armed src raw v
  obtain ⟨vamp, heard⟩ := s.heardSample_heard src raw
  have crosses : (b.source src).crosses v = some .positive := by
    rw [record]
    simp [SourceRec.crosses, SourceRec.arm, prev, armed, before, v, after]
  let m := b.modSource src (·.markPositive v)
  have mark : m.source src = (b.source src).markPositive v := b.modSource_source_self src _
  have marked : s.Heard m src := (heard.modSource _).modSource _
  have given : m.crossAmplitude src v = m.halfGiven src v := by
    refine State.crossAmplitude_steady v ?_ ?_
    · rw [mark, record]; exact clear
    · rw [mark, record, State.settings_of_cl marked.cl]; exact steady
  have stillClear : (m.halfGiven src v).clearSource src = true := by
    simp only [State.clearSource, m.halfGiven_source, SourceRec.closeHalf_squelched, mark, record]
    simp [SourceRec.markPositive, SourceRec.arm, clear]
  refine ⟨m.halfGiven src v, (b.source src).crossing v, ?_, ?_, m.halfGiven_heard src v marked, fun holdover => ?_⟩
  · rw [exec_sampleArrival_source ranked valid, State.detect_positive crosses, State.positiveCrossing_eq]
    simp only [given, stillClear, if_true, m, b, v]
  · rw [record]; rfl
  · have tracker := marked.tracker.trans holdover
    exact (State.halfGiven_vamp_kept v (.inr (by simp [tracker]))).trans vamp

/-- Settles O14: the crossing reaches the tracker in a state that the arrival alone has changed, and there each tracker
state has its own case. -/
theorem crossingsSteerTracker : Obligations.CrossingsSteerTracker := by
  unfold Obligations.CrossingsSteerTracker
  intro src raw p s prev ranked valid armed before after clear active steady r v f since measured phase e period kept
    corrected
  obtain ⟨u, c, result, crossing, heard, vamp⟩ := exec_clearCrossing prev ranked valid armed before after clear steady
  have c_eq : c = { fraction := f, span := 1 + r.invalidSince, period := measured } := by
    have period : measured = r.sinceCrossing.map fun k => ((k : Int) + 1) * 1600 + (f - r.fraction) * 1600 / 65536 := by
      cases counted : r.sinceCrossing <;> simp [measured, counted]
    rw [crossing, SourceRec.crossing_counted prev before after, period]
  have uActive := heard.active.trans active
  have offset : u.offset src = s.offset src := State.offset_of_cl heard.cl src
  have uPhase (on : s.st.tracker ≠ .off) : u.st.phase = phase := heard.phase.trans (State.pacedPhase_of_on src on)
  have error (on : s.st.tracker ≠ .off) : u.phaseError src c = e := by
    rw [State.phaseError, uPhase on, offset, heard.period, c_eq]
    rfl
  have followed : u.followed c = period := (State.followed_of_period heard.period c).trans (by subst c_eq; rfl)
  have kept_iff : (c.period = none ∨ validPeriod (u.followed c) = true) ↔ kept := by
    rw [followed, validPeriod_iff, c_eq]
  refine ⟨_, result, fun seek => ?_, fun locked => ?_, fun holdover => ?_, fun was now => ?_,
    exec_sampleArrival_frame ranked valid result⟩
  · have on : s.st.tracker ≠ .off := by simp [seek]
    have uSeek := heard.tracker.trans seek
    have period_eq : c.period = measured := by rw [c_eq]
    rw [State.trackCrossing_seek c uActive uSeek]
    refine ⟨fun bad => ?_, fun q found low high => ?_⟩
    · have outOfRange (q : Int) (h : c.period = some q) : validPeriod q = false := by
        rw [Bool.eq_false_iff, ne_eq, validPeriod_iff]
        have := bad q (period_eq ▸ h)
        omega
      rw [State.seekCrossing_bad src outOfRange]
      exact ⟨uSeek, rfl, heard.period, uPhase on⟩
    · have isPeriod := period_eq.trans found
      have good := (validPeriod_iff q).mpr ⟨low, high⟩
      refine ⟨fun short => ?_, fun a b window => ⟨fun apart => ?_, fun close => ?_⟩⟩
      · rw [State.seekCrossing_joins src isPeriod good (by rwa [heard.window]), heard.window]
        exact ⟨uSeek, rfl, heard.period, uPhase on⟩
      · rw [State.seekCrossing_third src isPeriod good (heard.window.trans window),
          if_neg (mt (consistent_three a b q).mp apart.not_ge)]
        exact ⟨uSeek, rfl, heard.period, uPhase on⟩
      · obtain ⟨tracker, kept_active, mean, moved, failures, stepLoss, timer, given, timebase⟩ :=
          State.seekCrossing_locks src isPeriod good (heard.window.trans window) close
        refine ⟨tracker, kept_active.trans uActive, mean, moved.trans ?_, failures, stepLoss, timer, given,
          fun g g_on => timebase g (mt (heard.follows.off g).mp g_on)⟩
        rw [offset, c_eq]
        rfl
  · have on : s.st.tracker ≠ .off := by simp [locked]
    have uLocked := heard.tracker.trans locked
    rw [State.trackCrossing_locked c uActive uLocked, error on]
    refine ⟨fun isKept => ?_, fun isLost => ?_⟩
    · rw [State.followCrossing_kept e (kept_iff.mpr isKept), followed]
      obtain ⟨same, moved, near, far, lost⟩ :=
        ({ u with st := { u.st with period } } : State).correctPhase_outcome e
      refine ⟨same, ?_, fun low high => ?_, fun out few => ?_, fun out many => ?_⟩
      · exact moved.trans (by rw [uPhase on]; rfl)
      · exact (near ⟨low, high⟩).imp_left (·.trans uLocked)
      · exact (far out (heard.stepLoss ▸ few)).imp (·.trans uLocked) (·.trans (by rw [heard.stepLoss]))
      · exact lost out (heard.stepLoss ▸ many)
    · rw [State.followCrossing_lost e (mt kept_iff.mp isLost)]
      obtain ⟨tracker, p_eq, phase_eq⟩ := u.enterSeek_where
      exact ⟨tracker, p_eq.trans heard.period, phase_eq.trans (uPhase on)⟩
  · have on : s.st.tracker ≠ .off := by simp [holdover]
    have uHoldover := heard.tracker.trans holdover
    rw [State.trackCrossing_holdover c uActive uHoldover]
    have far : 50 < magnitude (u.phaseError src c) ↔ e < -50 ∨ 50 < e := by rw [error on, magnitude_gt]
    refine ⟨fun out => ?_, fun low high first => ?_, fun low high second isKept => ?_,
      fun low high second isLost => ?_⟩
    · rw [State.holdoverCrossing_far (far.mpr out)]
      obtain ⟨tracker, p_eq, phase_eq⟩ := u.enterSeek_where
      exact ⟨tracker, p_eq.trans heard.period, phase_eq.trans (uPhase on)⟩
    · rw [State.holdoverCrossing_first (mt far.mp (by omega)) (heard.goodCrossings.trans first)]
      exact ⟨uHoldover, rfl, heard.period, uPhase on, vamp holdover⟩
    · obtain ⟨tracker, timer, stepLoss, p_eq, phase_eq, vamp_eq⟩ := State.holdoverCrossing_locks
        (mt far.mp (by omega)) (by rwa [heard.goodCrossings]) (kept_iff.mpr isKept)
      exact ⟨tracker, timer, stepLoss, p_eq.trans followed, phase_eq.trans (by rw [uPhase on, error on]; rfl),
        vamp_eq⟩
    · obtain ⟨tracker, p_eq⟩ := State.holdoverCrossing_gives_up
        (mt far.mp (by omega)) (by rwa [heard.goodCrossings]) (mt kept_iff.mp isLost)
      exact ⟨tracker, p_eq.trans heard.period⟩
  · have seeks := (State.trackCrossing_seeks (by rwa [heard.tracker]) now).after heard.follows heard.clock
    obtain ⟨⟨-, window, -⟩, ⟨timer, holdover⟩, timebase⟩ := seeks
    exact ⟨window, timer, holdover, timebase⟩

end Sys2Proof.Machine
end

section
/-! PROOF. The regulation step: what each of its stages computes, and the limits of its angle (section 3.4). -/

namespace Sys2Proof.Machine

/-! ### The voltage target (R46) -/

theorem clampInt_mem {lo hi : Int} (le : lo ≤ hi) (x : Int) : lo ≤ clampInt lo hi x ∧ clampInt lo hi x ≤ hi := by
  unfold clampInt; omega

/-- No current gives no droop, and a current toward the busbar gives none either. -/
theorem State.voltageTarget_of_ibus_nonpos {s : State} (h : s.li.ibus ≤ 0) :
    s.voltageTarget = clampInt s.rect.vmin s.rect.vmax (s.fc.vset.getD s.rect.vset + s.sc.trim) := by
  simp [State.voltageTarget, max_eq_right h]

theorem State.voltageTarget_of_ibus_nonneg {s : State} (h : 0 ≤ s.li.ibus) :
    s.voltageTarget =
      clampInt s.rect.vmin s.rect.vmax
        (s.fc.vset.getD s.rect.vset - s.li.ibus * s.rect.droop / 100 + s.sc.trim) := by
  simp [State.voltageTarget, max_eq_left h]

/-! ### The cosine law (R48) -/

/-- A larger cosine demand reaches no more of the table's angles. -/
theorem alphaReg_antitone {c d : Int} (h : c ≤ d) : alphaReg d ≤ alphaReg c := by
  have row (r : List Int) : (r.countP fun k => decide (d ≤ k)) ≤ r.countP fun k => decide (c ≤ k) :=
    List.countP_mono_left fun k _ reached => by
      simp only [decide_eq_true_eq] at reached ⊢
      exact h.trans reached
  unfold alphaReg
  exact_mod_cast List.sum_le_sum fun r _ => row r

theorem alphaReg_points :
    alphaReg 4096 = 0 ∧ alphaReg 4095 = 13 ∧ alphaReg 3723 = 246 ∧ alphaReg 2896 = 450 ∧ alphaReg 2048 = 600 ∧
      alphaReg 1000 = 759 ∧ alphaReg 0 = 900 := by
  decide +kernel

/-! ### The stages of the step (R47, R49, R50) -/

theorem State.updateSkipped_iff (s : State) (g : Group) :
    s.updateSkipped g = true ↔
      s.rect.ilim[g] < s.groupCurrent g ∨ (s.group (other g)).limited = true ∨
        (vd0Of s.st.vamp < s.rawCommand s.fc.iacc ∧ 0 < s.voltageTarget - s.vb) ∨
        (s.rawCommand s.fc.iacc < 0 ∧ s.voltageTarget - s.vb < 0) ∨ (s.group g).state = .starting := by
  simp only [State.updateSkipped, State.overLimit, Bool.or_eq_true, Bool.and_eq_true, decide_eq_true_eq, beq_iff_eq,
    or_assoc]

theorem State.newIacc_of_skipped {s : State} {g : Group} (h : s.updateSkipped g = true) : s.newIacc g = s.fc.iacc :=
  if_pos h

theorem State.newIacc_of_taken {s : State} {g : Group} (h : ¬ s.updateSkipped g = true) :
    s.newIacc g = clampInt (-256000) 256000 (s.fc.iacc + (s.voltageTarget - s.vb) * s.rect.ki) :=
  if_neg h

theorem State.limitedAlpha_eq (s : State) (g : Group) :
    s.limitedAlpha g =
      if s.rect.ilim[g] < s.groupCurrent g then max (s.regulated g) ((s.group g).prevAlpha + 11)
      else s.regulated g := by
  simp only [State.limitedAlpha, State.overLimit, decide_eq_true_eq]

/-- While the group's current is above its limit the angle asked for is 11 above the last one at least (R49). -/
theorem State.limitedAlpha_of_overLimit {s : State} {g : Group} (above : s.rect.ilim[g] < s.groupCurrent g) :
    (s.group g).prevAlpha + 11 ≤ s.limitedAlpha g := by
  rw [State.limitedAlpha_eq, if_pos above]
  exact le_max_right _ _

/-- The fall of the angle that a state allows in one step (R50). -/
def fallLimit (state : GroupState) : Int := if state = .starting then 2 else 23

theorem State.stepAlpha_eq (s : State) (g : Group) :
    s.stepAlpha g =
      clampInt s.rect.alphaMin s.rect.alphaMax
        (max (s.limitedAlpha g) ((s.group g).prevAlpha - fallLimit (s.stepState g))) := rfl

/-- The fall limit holds below alpha_max. -/
theorem State.stepAlpha_falls {s : State} {g : Group} (below : (s.group g).prevAlpha ≤ s.rect.alphaMax) :
    (s.group g).prevAlpha - fallLimit (s.stepState g) ≤ s.stepAlpha g := by
  have : 0 ≤ fallLimit (s.stepState g) := by unfold fallLimit; split <;> decide
  rw [State.stepAlpha_eq]
  unfold clampInt
  omega

/-- The angle rises as far as the current limit asks, or to alpha_max. -/
theorem State.stepAlpha_rises {s : State} {g : Group} (above : s.rect.ilim[g] < s.groupCurrent g) :
    min s.rect.alphaMax ((s.group g).prevAlpha + 11) ≤ s.stepAlpha g := by
  have asked := State.limitedAlpha_of_overLimit above
  rw [State.stepAlpha_eq]
  unfold clampInt
  omega

/-- Settles O18: the stages are what the model computes, the limits are those of the final clamp over the fall limit,
and the cosine law is a count over its table. -/
theorem regulationLimits : Obligations.RegulationLimits := by
  unfold Obligations.RegulationLimits
  refine ⟨fun s range => ?_, fun g s vd0_ne => ?_, fun g s range => ?_, ?_⟩
  · obtain ⟨low, high⟩ := clampInt_mem range
      (s.fc.vset.getD s.rect.vset - max s.li.ibus 0 * s.rect.droop / 100 + s.sc.trim)
    exact ⟨low, high, State.voltageTarget_of_ibus_nonpos, State.voltageTarget_of_ibus_nonneg⟩
  · intro r vt vd0 e trial above skipped iacc vcmd angle alpha state
    have iacc_eq : s.newIacc g = iacc := by
      by_cases h : skipped
      · rw [State.newIacc_of_skipped ((s.updateSkipped_iff g).mpr h)]
        exact (if_pos h).symm
      · rw [State.newIacc_of_taken (mt (s.updateSkipped_iff g).mp h)]
        exact (if_neg h).symm
    have command_eq : s.command g = vcmd := by rw [State.command, iacc_eq]; rfl
    have regulated_eq : s.regulated g = angle := by
      rw [State.regulated, command_eq]
      exact congrArg alphaReg (if_neg vd0_ne)
    have alpha_eq : s.limitedAlpha g = alpha := by rw [State.limitedAlpha_eq, regulated_eq]
    have state_eq : s.stepState g = state := by rw [State.stepState, alpha_eq]
    exact ⟨iacc_eq, command_eq, regulated_eq, rfl, alpha_eq, state_eq, by rw [State.stepAlpha, alpha_eq, state_eq]; rfl⟩
  · obtain ⟨low, high⟩ := clampInt_mem range
      (max (s.limitedAlpha g) ((s.group g).prevAlpha - fallLimit (s.stepState g)))
    refine ⟨low, high, fun below => ?_, fun below starting => ?_, State.stepAlpha_rises⟩
    · have : fallLimit (s.stepState g) ≤ 23 := by unfold fallLimit; split <;> decide
      have := State.stepAlpha_falls below
      omega
    · have := State.stepAlpha_falls below
      rwa [starting] at this
  · obtain ⟨p0, p1, p2, p3, p4, p5, p6⟩ := alphaReg_points
    exact ⟨p0, p1, p2, p3, p4, p5, p6, fun _ _ => alphaReg_antitone⟩

end Sys2Proof.Machine
end

section
/-! PROOF. A firing: the step reads few fields of the state, so what it computes can be read before the pulse begins,
and each firing of a chain turns to the next arm (sections 3.1, 3.3 and 3.5). -/

namespace Sys2Proof.Machine

/-! ### What a step reads -/

/-- Two states agree in everything that the regulation step of a group reads (R46 to R50). -/
structure State.SameStep (g : Group) (s t : State) : Prop where
  li : t.li = s.li
  st : t.st = s.st
  sc : t.sc = s.sc
  cl : t.cl = s.cl
  iacc : t.fc.iacc = s.fc.iacc
  vset : t.fc.vset = s.fc.vset
  state : (t.group g).state = (s.group g).state
  prevAlpha : (t.group g).prevAlpha = (s.group g).prevAlpha
  limited : (t.group (other g)).limited = (s.group (other g)).limited

section
variable {g : Group} {s t : State} (same : s.SameStep g t)
include same

theorem State.SameStep.rect : t.rect = s.rect := by
  simp only [State.rect, State.settings, same.cl]

theorem State.SameStep.voltageTarget : t.voltageTarget = s.voltageTarget := by
  simp only [State.voltageTarget, same.rect, same.vset, same.li, same.sc]

theorem State.SameStep.vb : t.vb = s.vb := by simp only [State.vb, State.lane, same.li]

theorem State.SameStep.groupCurrent : t.groupCurrent g = s.groupCurrent g := by
  simp only [State.groupCurrent, State.lane, same.li]

theorem State.SameStep.overLimit : t.overLimit g = s.overLimit g :=
  decide_eq_decide.mpr (by rw [same.rect, same.groupCurrent])

theorem State.SameStep.rawCommand (iacc : Int) : t.rawCommand iacc = s.rawCommand iacc := by
  simp only [State.rawCommand, same.voltageTarget, same.vb, same.rect]

theorem State.SameStep.updateSkipped : t.updateSkipped g = s.updateSkipped g := by
  rw [Bool.eq_iff_iff, State.updateSkipped_iff, State.updateSkipped_iff]
  simp only [same.voltageTarget, same.vb, same.groupCurrent, same.rawCommand, same.st, same.limited, same.state,
    same.iacc, same.rect]

theorem State.SameStep.newIacc : t.newIacc g = s.newIacc g := by
  rw [State.newIacc, State.newIacc, same.updateSkipped, same.voltageTarget, same.vb, same.iacc, same.rect]

theorem State.SameStep.limitedAlpha : t.limitedAlpha g = s.limitedAlpha g := by
  simp only [State.limitedAlpha, State.regulated, State.command, same.overLimit, same.newIacc, same.rawCommand, same.st,
    same.prevAlpha]

theorem State.SameStep.stepState : t.stepState g = s.stepState g := by
  simp only [State.stepState, same.limitedAlpha, same.voltageTarget, same.vb, same.state, same.prevAlpha]

theorem State.SameStep.stepAlpha : t.stepAlpha g = s.stepAlpha g := by
  simp only [State.stepAlpha, same.limitedAlpha, same.stepState, same.rect, same.prevAlpha]

end

/-! ### The step at a firing -/

/-- The firing that the step arms after an arm (R51). -/
def State.armedNext (s : State) (g : Group) (arm : Fin 6) : Armed :=
  { arm := nextArm arm, theta := (naturalAngle g (nextArm arm) + s.stepAlpha g) % 3600, alpha := s.stepAlpha g }

theorem State.regulate_fc (g : Group) (arm : Fin 6) (s : State) :
    (s.regulate g arm).fc =
      ({ s with fc := { s.fc with iacc := s.newIacc g } }.modGroup g fun r =>
        { r with state := s.stepState g, limited := s.overLimit g, armed := some (s.armedNext g arm) }).fc := by
  simp only [State.regulate]
  split
  · rfl
  · simp [State.armedNext]

theorem State.regulate_group_self (g : Group) (arm : Fin 6) (s : State) :
    (s.regulate g arm).group g =
      { s.group g with state := s.stepState g, limited := s.overLimit g, armed := some (s.armedNext g arm) } :=
  (State.group_of_fc (s.regulate_fc g arm) g).trans (State.modGroup_group_self _ g _)

theorem State.regulate_group_ne {g g' : Group} (ne : g' ≠ g) (arm : Fin 6) (s : State) :
    (s.regulate g arm).group g' = s.group g' :=
  (State.group_of_fc (s.regulate_fc g arm) g').trans (State.modGroup_group_ne _ _ ne)

theorem State.regulate_regulator (g : Group) (arm : Fin 6) (s : State) :
    (s.regulate g arm).fc.iacc = s.newIacc g ∧ (s.regulate g arm).fc.vset = s.fc.vset := by
  rw [s.regulate_fc g arm]; exact ⟨rfl, rfl⟩

/-- The state that the step of a firing is said of: the fired angle is the previous one. -/
abbrev State.firedAt (s : State) (g : Group) (a : Armed) : State :=
  s.modGroup g fun r => { r with prevAlpha := a.alpha }

/-- The pulse of a firing (R36). -/
def State.pulseOf (s : State) (a : Armed) : Pulse :=
  { arm := a.arm, endPhase := (s.phi + s.rect.pulseWidth) % 3600 }

/-- The group after a firing: its pulse has begun, and the step has read what the fired angle leaves (R43). -/
theorem State.fireArmed_group_self (g : Group) (a : Armed) (s : State) :
    (s.fireArmed g a).group g =
      { s.group g with
        pulse := some (s.pulseOf a), prevAlpha := a.alpha, armed := some ((s.firedAt g a).armedNext g a.arm),
        state := (s.firedAt g a).stepState g, limited := (s.firedAt g a).overLimit g } ∧
      (s.fireArmed g a).fc.iacc = (s.firedAt g a).newIacc g := by
  have same : (s.firedAt g a).SameStep g
      (s.modGroup g fun r => { r with pulse := some (s.pulseOf a), prevAlpha := a.alpha, armed := none }) :=
    ⟨rfl, rfl, rfl, rfl, rfl, rfl, by simp, by simp, by simp [other_ne]⟩
  refine ⟨(State.regulate_group_self _ _ _).trans ?_, (State.regulate_regulator _ _ _).1.trans same.newIacc⟩
  have armed := congrArg some (congrArg (fun alpha => Armed.mk (nextArm a.arm)
    ((naturalAngle g (nextArm a.arm) + alpha) % 3600) alpha) same.stepAlpha)
  rw [← same.stepState, ← same.overLimit, ← show _ = some ((s.firedAt g a).armedNext g a.arm) from armed]
  simp [State.armedNext, State.pulseOf]

theorem State.fireArmed_group_ne {g g' : Group} (ne : g' ≠ g) (a : Armed) (s : State) :
    (s.fireArmed g a).group g' = s.group g' :=
  (State.regulate_group_ne ne _ _).trans (State.modGroup_group_ne _ _ ne)

theorem State.fireArmed_vset (g : Group) (a : Armed) (s : State) : (s.fireArmed g a).fc.vset = s.fc.vset :=
  (State.regulate_regulator _ _ _).2

theorem State.fireArmed_armed (g : Group) (a : Armed) (s : State) :
    ((s.fireArmed g a).group g).armed = some ((s.firedAt g a).armedNext g a.arm) := by
  rw [(s.fireArmed_group_self g a).1]

theorem State.phi_congr {s t : State} (clock : t.clock = s.clock) (st : t.st = s.st) : t.phi = s.phi := by
  simp only [State.phi, State.readPhase, clock, st]

theorem State.fireArmed_phi (g : Group) (a : Armed) (s : State) : (s.fireArmed g a).phi = s.phi :=
  State.phi_congr (by simp) (by simp)

/-! ### A chain of firings (R51) -/

theorem fireWithin_on_time {g : Group} {a : Armed} {s : State} (n : Nat) (armed : (s.group g).armed = some a)
    (onTime : lead ((s.firedAt g a).armedNext g a.arm).theta s.phi < 3000) :
    fireWithin (n + 1) g s = s.fireArmed g a := by
  simp [fireWithin, armed, s.fireArmed_armed, s.fireArmed_phi, onTime.not_ge]

theorem fireWithin_late {g : Group} {a : Armed} {s : State} (n : Nat) (armed : (s.group g).armed = some a)
    (late : 3000 ≤ lead ((s.firedAt g a).armedNext g a.arm).theta s.phi) :
    fireWithin (n + 1) g s = fireWithin n g (s.fireArmed g a) := by
  simp [fireWithin, armed, s.fireArmed_armed, s.fireArmed_phi, late]

/-- The other group is no part of a chain. -/
theorem fireWithin_group_ne {g g' : Group} (ne : g' ≠ g) (n : Nat) (s : State) :
    (fireWithin n g s).group g' = s.group g' := by
  induction n generalizing s with
  | zero => rfl
  | succ n ih =>
    cases armed : (s.group g).armed with
    | none => simp [fireWithin, armed]
    | some a =>
      rcases lt_or_ge (lead ((s.firedAt g a).armedNext g a.arm).theta s.phi) 3000 with onTime | late
      · rw [fireWithin_on_time n armed onTime, s.fireArmed_group_ne ne]
      · rw [fireWithin_late n armed late, ih, s.fireArmed_group_ne ne]

/-- The pulse that a chain leaves is that of the arm it began with, or of one of the arms after it. -/
theorem fireWithin_pulse (n : Nat) {g : Group} {a : Armed} {s : State} (armed : (s.group g).armed = some a) :
    ∃ p i, ((fireWithin (n + 1) g s).group g).pulse = some p ∧ i ≤ n ∧ p.arm = nextArm^[i] a.arm := by
  have first : ((s.fireArmed g a).group g).pulse = some (s.pulseOf a) := by rw [(s.fireArmed_group_self g a).1]
  induction n generalizing s a with
  | zero =>
    refine ⟨s.pulseOf a, 0, ?_, le_rfl, rfl⟩
    rcases lt_or_ge (lead ((s.firedAt g a).armedNext g a.arm).theta s.phi) 3000 with onTime | late
    · rw [fireWithin_on_time 0 armed onTime, first]
    · rw [fireWithin_late 0 armed late, fireWithin, first]
  | succ n ih =>
    rcases lt_or_ge (lead ((s.firedAt g a).armedNext g a.arm).theta s.phi) 3000 with onTime | late
    · exact ⟨s.pulseOf a, 0, by rw [fireWithin_on_time _ armed onTime, first], Nat.zero_le _, rfl⟩
    · obtain ⟨p, i, pulse, within, arm⟩ :=
        ih (s.fireArmed_armed g a) (by rw [(State.fireArmed_group_self g _ _).1])
      exact ⟨p, i + 1, by rw [fireWithin_late _ armed late, pulse], Nat.succ_le_succ within, arm⟩

theorem nextArm_iterate_ne (arm : Fin 6) {i : Nat} (within : i ≤ 2) : nextArm^[i] (nextArm arm) ≠ arm := by
  have : ∀ (arm : Fin 6) (i : Fin 3), nextArm^[i.val] (nextArm arm) ≠ arm := by decide
  exact this arm ⟨i, by omega⟩

/-! ### The command FIRING -/

theorem exec_firing {g : Group} {a : Armed} {s : State} (armed : (s.group g).armed = some a)
    (fires : (s.group g).state.fires) (due : reached a.theta s.phi) : exec (.firing g) s = .next (s.fire g) := by
  simp [exec, execFiring, armed, fires, due]

/-- A group whose pulse is of an arm drives that arm and its companion (R36). -/
theorem State.gate_of_pulse {s : State} {g : Group} {p : Pulse} (pulse : (s.group g).pulse = some p) (k : Fin 6) :
    s.gate g k = (k == p.arm || k == companion p.arm) := by
  simp only [State.gate, pulse]

/-- Settles O17: the first firing of a chain is one `fireArmed`, and a late one is followed by the same for the next
arm. -/
theorem firingMakesPulse : Obligations.FiringMakesPulse := by
  unfold Obligations.FiringMakesPulse
  intro g a s armed fires due u next
  obtain ⟨record, iacc⟩ := s.fireArmed_group_self g a
  refine ⟨s.fire g, exec_firing armed fires due, fireWithin_group_ne (other_ne g) 4 s, s.fire_frame g,
    (fireWithin_causesKept 4 g s g).1, fun onTime => ?_, fun late => ⟨?_, ?_⟩⟩
  · rw [State.fire, fireWithin_on_time 3 armed onTime]
    exact ⟨record, iacc, State.gate_of_pulse (by rw [record])⟩
  · obtain ⟨p, i, pulse, within, arm⟩ := fireWithin_pulse 2 (s.fireArmed_armed g a)
    rw [State.fire, fireWithin_late 3 armed late]
    exact ⟨p, pulse, arm ▸ nextArm_iterate_ne a.arm within⟩
  · intro v third thirdOnTime
    have same : v.SameStep g ((s.fireArmed g a).firedAt g next) := by
      refine ⟨by simp [v], by simp [v], by simp [v], by simp [v], iacc, s.fireArmed_vset g a, ?_, ?_, ?_⟩
      · simp [v, record]; rfl
      · simp [v]
      · simp [v, other_ne, s.fireArmed_group_ne]; rfl
    have third_eq : ((s.fireArmed g a).firedAt g next).armedNext g next.arm = third := by
      rw [State.armedNext, same.stepAlpha]
    have pulse_eq : (s.fireArmed g a).pulseOf next =
        { arm := nextArm a.arm, endPhase := (s.phi + s.rect.pulseWidth) % 3600 } := by
      rw [State.pulseOf, s.fireArmed_phi, State.rect, State.settings_of_cl (s := s) (by simp)]; rfl
    obtain ⟨second, secondIacc⟩ := (s.fireArmed g a).fireArmed_group_self g next
    rw [third_eq, pulse_eq, same.stepState, same.overLimit, record] at second
    rw [State.fire, fireWithin_late 3 armed late, fireWithin_on_time 2 (s.fireArmed_armed g a)
      (by rw [s.fireArmed_phi]; exact third_eq ▸ thirdOnTime)]
    exact ⟨second, secondIacc.trans same.newIacc, State.gate_of_pulse (congrArg GroupRec.pulse second)⟩

end Sys2Proof.Machine
end

section
/-! PROOF. The way of a COMMAND frame that is taken: it is heard, performed, answered and forwarded (sections 7.5 and
9.6). -/

namespace Sys2Proof.Machine

/-! ### A frame that is taken (R125, R136, R137) -/

@[simp] theorem State.heard_frame (s : State) (p : Port) (h : Header) : s.onlyPp (s.heard p h) := by
  unfold State.onlyPp
  simp only [State.heard]
  split <;> simp

theorem State.heard_port_ne (s : State) {p q : Port} (h : Header) (ne : q ≠ p) :
    (s.heard p h).port q = s.port q := by
  have hears : (s.portHears p).port q = s.port q := s.modPort_port_ne _ ne
  simp only [State.heard]
  split <;> exact hears

theorem State.receiveFrame_taken {s : State} {p : Port} {f : Frame} (taken : s.takesFrame p f) :
    s.receiveFrame p f = ((s.heard p f.header).handOn p f).forward p f := by
  obtain ⟨receives, wellFormed, unseen, foreign⟩ := taken
  have station : (s.heard p f.header).cl.station ≠ f.header.origin := by simpa using foreign.symm
  have processed : ((s.heard p f.header).handOn p f).forward p f = (s.heard p f.header).processFrame p f :=
    (if_neg station.symm).symm
  rw [State.receiveFrame, if_pos receives, if_pos wellFormed, processed]
  simp only [State.receiveGood, State.heard]
  split
  next network => rw [if_neg (by simpa [State.portHears, State.modPort] using unseen network)]
  next => rfl

/-- The copy for the other port, a loop discard and the drop of a copy are reports alone (R138, R132). -/
theorem State.forward_same (s : State) (p : Port) (f : Frame) : s.SameButReports (s.forward p f) := by
  simp only [State.forward]
  (repeat' split)
  · exact s.sameButReports_modPort _ _ (by simp [PortRec.sameReception, PortRec.countDrop])
  · exact (s.enqueue_same _ _).trans (State.announce_same _ _)
  · exact .refl s

theorem State.forward_of_notForwarded {s : State} {p : Port} {f : Frame} (kept : s.notForwarded p f.header) :
    s.forward p f = s := by
  refine if_neg fun forwards => ?_
  simp only [Bool.and_eq_true, beq_iff_eq, bne_iff_ne, ne_eq] at forwards
  obtain ⟨⟨⟨⟨⟨-, junction⟩, network⟩, hops⟩, -⟩, on⟩ := forwards
  obtain none_ | segment | last | off := kept
  · simp [none_] at junction
  · simp [segment] at network
  · exact hops last
  · exact on off

/-! ### A command (R172, R173) -/

/-- The body of a command's frame. -/
def commandBody (c : CommandOperands) (k : Command) : CommandBody :=
  { target := c.target, code := k.code, number := c.number, arg := c.arg, tag := c.tag }

/-- The state `t` comes from the one that a command's owner has left, with its result, by setting the result and
forwarding the frame. -/
structure State.Answers (c : CommandOperands) (k : Command) (left : State) (result : CommandResult) (t : State) :
    Prop where
  same : (left.setResult c.header.origin k.code result).SameButReports t
  unforwarded : left.notForwarded c.port c.header → t = left.setResult c.header.origin k.code result

theorem State.Answers.answered {c : CommandOperands} {k : Command} {left t : State} {result : CommandResult}
    (h : State.Answers c k left result t) : t.answered c k result :=
  h.same.kept.lastResult

/-- Setting a result and forwarding a frame leave the blocks that a command's owner has changed. -/
theorem State.Answers.blocks {c : CommandOperands} {k : Command} {left t : State} {result : CommandResult}
    (h : State.Answers c k left result t) :
    t.clock = left.clock ∧ t.li = left.li ∧ t.st = left.st ∧ t.fc = left.fc ∧ t.fp = left.fp ∧ t.fs = left.fs ∧
      t.sc = left.sc ∧ t.cl = left.cl := by
  obtain ⟨clock, -, li, st, fc, fp, fs, sc, -, cl, -⟩ := h.same.blocks
  exact ⟨clock, li, st, fc, fp, fs, sc, cl⟩

theorem Command.ofCode_code (k : Command) : Command.ofCode k.code = some k := by cases k <;> rfl

theorem exec_row {k : Command} (plain : k ≠ .restart) (c : CommandOperands) (s : State) :
    exec (k.row c) s = .next (s.receiveCommand c k.code) := by
  cases k
  case restart => exact absurd rfl plain
  all_goals rfl

theorem State.judgeCommand_runs {s : State} {b : CommandBody} {k : Command} (code : b.code = k.code)
    (plain : k ≠ .restart) (number : k.badNumber b.number = false) (running : s.inConfigFault = false)
    (origin : Byte) :
    s.judgeCommand origin b = (s.perform k b).1.setResult origin b.code (s.perform k b).2 := by
  unfold State.judgeCommand
  rw [code, Command.ofCode_code]
  cases k
  case restart => exact absurd rfl plain
  all_goals simp [number, running]

/-- A command that passes every check is performed by its owner in the state that has heard its frame, answered, and
its frame forwarded. -/
theorem exec_command {c : CommandOperands} {k : Command} {s : State} (taken : s.takesCommand c k.code)
    (plain : k ≠ .restart) (number : k.badNumber c.number = false) :
    ∃ t, exec (k.row c) s = .next t ∧
      ∀ left result, (s.heard c.port c.header).perform k (commandBody c k) = (left, result) →
        State.Answers c k left result t := by
  obtain ⟨frame, target, gateway, mode⟩ := taken
  have station : (commandBody c k).target = (s.heard c.port c.header).cl.station := by simpa [commandBody] using target
  have running : (s.heard c.port c.header).inConfigFault = false := by simp [State.inConfigFault, mode]
  have origin : (s.heard c.port c.header).isGateway c.header.origin = true := by
    simpa [State.isGateway, State.settings] using gateway
  refine ⟨((s.heard c.port c.header).handOn c.port (commandFrame c k.code)).forward c.port (commandFrame c k.code),
    ?_, fun left result performed => ?_⟩
  · rw [exec_row plain, State.receiveCommand, State.receiveFrame_taken frame]
    rfl
  · have handed : (s.heard c.port c.header).handOn c.port (commandFrame c k.code) =
        left.setResult c.header.origin k.code result :=
      calc (s.heard c.port c.header).handOn c.port (commandFrame c k.code)
        _ = (s.heard c.port c.header).takeCommand c.header (commandBody c k) := rfl
        _ = (s.heard c.port c.header).judgeCommand c.header.origin (commandBody c k) := by
          rw [State.takeCommand, if_pos station, if_pos (by simp [origin])]
        _ = left.setResult c.header.origin k.code result := by
          rw [State.judgeCommand_runs rfl plain number running, performed]
          rfl
    rw [handed]
    exact ⟨State.forward_same _ _ _, fun kept => State.forward_of_notForwarded kept⟩

end Sys2Proof.Machine
end

section
/-! PROOF. The end of standby, the entry into it, and the commands RESET GROUP and SET VOLTAGE (sections 3.2, 3.4 and
3.7). -/

namespace Sys2Proof.Machine

/-! ### Block causes and the rest of the firing record -/

/-- The second record differs in the groups and the integrator at most. -/
abbrev Firing.onlyGroups (a b : Firing) : Prop :=
  b.vset = a.vset ∧ b.standby = a.standby ∧ b.entryTime = a.entryTime ∧ b.wakeTimer = a.wakeTimer

@[simp] theorem State.modGroup_fc (s : State) (g : Group) (h : GroupRec → GroupRec) :
    s.fc.onlyGroups (s.modGroup g h).fc := by
  simp [Firing.onlyGroups, State.modGroup]

@[simp] theorem State.blockGroup_fc (g : Group) (s : State) : s.fc.onlyGroups (s.blockGroup g).fc := by
  simp [Firing.onlyGroups, State.blockGroup]

@[simp] theorem State.startGroup_fc (g : Group) (s : State) : s.fc.onlyGroups (s.startGroup g).fc := by
  simp [Firing.onlyGroups, State.startGroup]

@[simp] theorem State.putCause_fc (m : BlockCause) (b : Bool) (g : Group) (s : State) :
    s.fc.onlyGroups (s.putCause m b g).fc := by
  unfold Firing.onlyGroups
  simp only [State.putCause]
  (repeat' split) <;> simp

@[simp] theorem State.putCauses_fc (m : BlockCause) (b : Bool) (s : State) : s.fc.onlyGroups (s.putCauses m b).fc := by
  simp [Firing.onlyGroups, State.putCauses, forGroups]

/-- A BLOCKED group that loses a member starts when that was its last one (R37). -/
theorem State.putCause_removed {m : BlockCause} {g : Group} {s : State} (blocked : (s.group g).state = .blocked)
    (present : (s.group g).causes.has m = true) :
    ((s.putCause m false g).group g).state =
      if ((s.group g).causes.put m false).isEmpty then .starting else .blocked := by
  simp only [State.putCause, blocked, present, GroupState.fires]
  rw [if_neg (by simp), if_neg (by simp)]
  split
  · simp [State.startGroup_group_self]
  · simp [blocked]

theorem State.putCauses_removed {m : BlockCause} {g : Group} {s : State} (blocked : (s.group g).state = .blocked)
    (present : (s.group g).causes.has m = true) :
    ((s.putCauses m false).group g).state =
      if ((s.group g).causes.put m false).isEmpty then .starting else .blocked := by
  obtain ⟨u, same, e⟩ := s.putCauses_group m false g
  rw [e, State.putCause_removed (by rwa [same]) (by rwa [same]), same]

/-! ### The end of standby (R58) -/

/-- The firing record of a station that wakes, before STANDBY leaves the groups. -/
def State.roused (s : State) : State :=
  { s with fc := { s.fc with standby := false, entryTime := none, wakeTimer := none } }

theorem State.wake_asleep {s : State} (asleep : s.fc.standby = true) (cause : Cause) :
    (s.wake cause).fc = (s.roused.putCauses .standby false).fc := by
  simp [State.wake, asleep, State.roused]

theorem State.wake_awake {s : State} (awake : s.fc.standby = false) (cause : Cause) : s.wake cause = s := by
  simp [State.wake, awake]

theorem State.wake_woken (s : State) (cause : Cause) : s.Woken (s.wake cause) := by
  cases standby : s.fc.standby with
  | false =>
    rw [State.wake_awake standby]
    exact ⟨standby, by simp [standby], by simp [standby], by simp [standby], fun _ => ⟨rfl, rfl⟩, rfl⟩
  | true =>
    have fc := s.wake_asleep standby cause
    refine ⟨by simp [fc, State.roused], fun _ => by simp [fc, State.roused], fun _ g on => ?_,
      fun _ g blocked present => ?_, by simp [standby], by simp [fc, State.roused]⟩
    · rw [State.group_of_fc fc, State.putCauses_causes]
      exact if_neg on
    · rw [State.group_of_fc fc]
      exact State.putCauses_removed (m := .standby) (s := s.roused) blocked present

/-- Waking is said of the Firing Controller and the Coordinator alone. -/
theorem State.Woken.congr {s s' t t' : State} (h : s.Woken t) (before : s.fc = s'.fc ∧ s.sc = s'.sc)
    (after : t'.fc = t.fc ∧ t'.sc = t.sc) : s'.Woken t' := by
  obtain ⟨fc, sc⟩ := before
  obtain ⟨fc', sc'⟩ := after
  have group : s.group = s'.group := funext fun g => State.group_of_fc fc g
  have group' : t'.group = t.group := funext fun g => State.group_of_fc fc' g
  obtain ⟨awake, record, causes, state, same, settings⟩ := h
  rw [← fc', ← sc', fc, sc] at same
  rw [← fc', fc] at record settings
  rw [← group', group, fc] at causes state
  exact ⟨fc' ▸ awake, record, causes, state, same, settings⟩

/-- Settles O19: the expiry is a `wake`, and the command is one between hearing and answering it. -/
theorem stationWakes : Obligations.StationWakes := by
  unfold Obligations.StationWakes
  refine ⟨fun s due => ⟨s.wake .vbLow, congrArg Host.Outcome.next (if_pos due), s.wake_woken _, s.wake_frame _⟩,
    fun c s taken => ?_⟩
  obtain ⟨t, run, answers⟩ := exec_command (k := .wake) taken nofun rfl
  have answer := answers _ _ rfl
  obtain ⟨-, li, st, fc, fp, fs, sc, -⟩ := answer.blocks
  exact ⟨t, run, answer.answered, ((s.heard c.port c.header).wake_woken .command).congr (by simp) ⟨fc, sc⟩,
    fs.trans (by simp), fp.trans (by simp), st.trans (by simp), li.trans (by simp)⟩

/-! ### The entry into standby (R54, R55, R158) -/

/-- The firing record of a station that enters standby, before STANDBY joins the groups' causes. -/
def State.drowsy (s : State) : State :=
  { s with fc := { s.fc with standby := true, entryTime := some s.time } }

theorem State.enterStandby_fc (s : State) : s.enterStandby.fc = (s.drowsy.putCauses .standby true).fc := by
  simp [State.enterStandby, State.drowsy]

theorem State.judgeLoad_standby {s : State} (standby : s.fc.standby = true) :
    s.judgeLoad = { s with sc := { s.sc with condition := .none, dwellTimer := none, decayTimer := none } } :=
  if_pos standby

/-- In standby the trim is kept and its timers are stopped (R158). -/
theorem State.enterStandby_sc (s : State) :
    s.enterStandby.sc = { s.sc with condition := .none, dwellTimer := none, decayTimer := none } := by
  rw [State.enterStandby, State.judgeLoad_standby (by simp)]
  simp

theorem State.enterStandby_record (s : State) :
    s.enterStandby.fc.standby = true ∧ s.enterStandby.fc.entryTime = some s.time := by
  simp [State.enterStandby_fc, State.drowsy]

theorem State.enterStandby_causes {s : State} {g : Group} (on : (s.group g).state ≠ .off) :
    (s.enterStandby.group g).causes.standby = true := by
  rw [State.group_of_fc s.enterStandby_fc, State.putCauses_causes]
  exact congrArg CauseSet.standby (if_neg on)

theorem State.enterStandby_quiet {s : State} {g : Group}
    (clear : (s.group g).state.fires → (s.group g).causes.isEmpty) : (s.enterStandby.group g).state.fires = false := by
  rw [State.group_of_fc s.enterStandby_fc]
  exact State.putCauses_quiet .standby s.drowsy g clear

/-! ### The conditions of STANDBY (R54) -/

theorem FeederState.keepsAwake_eq_false (k : FeederState) :
    k.keepsAwake = false ↔ k ≠ .closing ∧ k ≠ .tripping ∧ k ≠ .testing ∧ k ≠ .tripped ∧ k ≠ .failed := by
  cases k <;> simp [FeederState.keepsAwake]

theorem PeerEntry.shown_eq_some (e : PeerEntry) (b : StatusBody) :
    e.shown = some b ↔ e.health = .fresh ∧ e.contents = some b := by
  cases h : e.health <;> simp [PeerEntry.shown, h]

theorem PeerEntry.peerRunning_iff (e : PeerEntry) :
    e.peerRunning = true ↔ e.pinned = true ∧ ∃ b, e.shown = some b ∧ (b.g1 = 3 ∨ b.g2 = 3) := by
  cases shown : e.shown <;> simp [PeerEntry.peerRunning, shown, GroupState.code]

theorem PeerEntry.peerStandby_eq_false (e : PeerEntry) :
    e.peerStandby = false ↔ (e.pinned = true → ∀ b, e.shown = some b → b.flags.getLsbD 0 = false) := by
  cases shown : e.shown <;> simp [PeerEntry.peerStandby, shown, StatusBody.standbyFlag, -Bool.not_eq_true]

theorem State.standbyAllowed_iff (s : State) :
    s.standbyAllowed = true ↔
      (∀ f, (s.feeder f).state.keepsAwake = false) ∧ (∀ e ∈ s.rc.table, 3 < e.priority) ∧
        (∃ e ∈ s.sc.peers, e.peerRunning = true ∧ e.peerStandby = false) ∧
        ∀ e ∈ s.sc.peers, e.peerStandby = false := by
  simp [State.standbyAllowed, and_assoc]

/-! ### The commands -/

theorem State.takeStandby_asleep {s : State} (asleep : s.fc.standby = true) :
    s.takeStandby = (s, .refusedState) := if_pos asleep

theorem State.takeStandby_allowed {s : State} (awake : s.fc.standby = false) (allowed : s.standbyAllowed = true) :
    s.takeStandby = (s.enterStandby, .done) := by
  simp [State.takeStandby, awake, allowed]

theorem State.takeStandby_refused {s : State} (awake : s.fc.standby = false) (refused : s.standbyAllowed = false) :
    s.takeStandby = (s, .notTaken) := by
  simp [State.takeStandby, awake, refused]

/-- What STANDBY asks about is the same after its frame has been heard. -/
theorem State.heard_standbyAllowed (s : State) (p : Port) (h : Header) :
    (s.heard p h).standbyAllowed = s.standbyAllowed := by
  simp [State.standbyAllowed, State.feeder]

theorem State.heard_notForwarded (s : State) {p : Port} {h : Header} (kept : s.notForwarded p h) :
    (s.heard p h).notForwarded p h := by
  rw [State.notForwarded, State.settings_of_cl (s := s) (by simp), s.heard_port_ne h (other_ne p)]
  exact kept

/-- Settles O49: hearing the frame changes nothing that `takeStandby` reads, and its three answers are three cases. -/
theorem standbyCommand : Obligations.StandbyCommand := by
  unfold Obligations.StandbyCommand
  refine ⟨fun c s taken kept => ?_, fun s => ?_⟩
  · let u := s.heard c.port c.header
    have u_fc : u.fc = s.fc := by simp [u]
    have u_allowed : u.standbyAllowed = s.standbyAllowed := s.heard_standbyAllowed c.port c.header
    have u_group (g : Group) : u.group g = s.group g := State.group_of_fc u_fc g
    obtain ⟨t, run, answers⟩ := exec_command (k := .standby) taken nofun rfl
    have performs : u.perform .standby (commandBody c .standby) = u.takeStandby := rfl
    obtain ⟨-, -, st, fc, fp, fs, sc, -⟩ := (answers u.takeStandby.1 u.takeStandby.2 performs).blocks
    refine ⟨t, run, fun asleep => ?_, fun awake allowed => ?_, fun awake refused => ?_, fs.trans ?_, fp.trans ?_,
      st.trans ?_⟩
    · have answer := answers _ _ (performs.trans <| State.takeStandby_asleep (u_fc ▸ asleep))
      obtain ⟨-, -, -, fc, -⟩ := answer.blocks
      exact ⟨answer.answered, fc.trans u_fc⟩
    · have answer := answers _ _ (performs.trans <| State.takeStandby_allowed (u_fc ▸ awake) (u_allowed ▸ allowed))
      obtain ⟨-, -, -, fc, -, -, sc, -⟩ := answer.blocks
      obtain ⟨standby, entryTime⟩ := u.enterStandby_record
      refine ⟨answer.answered, by rw [fc]; exact standby, ?_, fun g on => ?_, fun ok g => ?_, ?_, ?_⟩
      · rw [fc]; exact entryTime.trans (by simp [State.time, u])
      · rw [State.group_of_fc fc]
        exact State.enterStandby_causes (by rwa [u_group])
      · rw [State.group_of_fc fc]
        exact State.enterStandby_quiet (by rw [u_group]; exact fun fires => ((ok.groups g).fires.mp fires).2)
      · rw [sc, State.enterStandby_sc]; simp [u]
      · rw [sc, State.enterStandby_sc]
    · have answer := answers _ _ (performs.trans <| State.takeStandby_refused (u_fc ▸ awake) (u_allowed ▸ refused))
      have sameRc : u.rc = s.rc := by simp [u]
      rw [← sameRc]
      exact answer.unforwarded (s.heard_notForwarded kept)
    all_goals simp [u]
  · rw [State.standbyAllowed_iff]
    simp only [FeederState.keepsAwake_eq_false, PeerEntry.peerRunning_iff, PeerEntry.peerStandby_eq_false,
      PeerEntry.shown_eq_some]
    refine and_congr Iff.rfl (and_congr Iff.rfl (and_congr ⟨?_, ?_⟩ ⟨?_, ?_⟩))
    · rintro ⟨e, known, ⟨pinned, b, ⟨fresh, contents⟩, runs⟩, awake⟩
      exact ⟨e, known, b, pinned, fresh, contents, runs, awake pinned b ⟨fresh, contents⟩⟩
    · rintro ⟨e, known, b, pinned, fresh, contents, runs, awake⟩
      refine ⟨e, known, ⟨pinned, b, ⟨fresh, contents⟩, runs⟩, fun _ b' ⟨_, contents'⟩ => ?_⟩
      rwa [Option.some.inj (contents'.symm.trans contents)]
    · exact fun awake e known b pinned fresh contents => awake e known pinned b ⟨fresh, contents⟩
    · exact fun awake e known pinned b ⟨fresh, contents⟩ => awake e known b pinned fresh contents

/-! ### RESET GROUP and SET VOLTAGE (R42, R52) -/

theorem State.resetFault_ne {g g' : Group} (ne : g' ≠ g) (s : State) : (s.resetFault g).1.group g' = s.group g' := by
  simp only [State.resetFault]
  split
  · exact s.putCause_group_ne _ _ ne
  · rfl

theorem State.perform_resetGroup {c : CommandOperands} {g : Group} (number : groupOf c.number = some g) (s : State) :
    s.perform .resetGroup (commandBody c .resetGroup) = s.resetFault g := by
  simp [State.perform, State.commandResetGroup, commandBody, number]

theorem State.resetFault_faulty {s : State} {g : Group} (fault : (s.group g).causes.fault = true) :
    s.resetFault g = (s.putCause .fault false g, .done) := if_pos fault

theorem State.resetFault_sound {s : State} {g : Group} (sound : (s.group g).causes.fault = false) :
    s.resetFault g = (s, .refusedState) := by
  simp [State.resetFault, sound]

/-- Settles O48: RESET GROUP is one `putCause` between hearing and answering, and SET VOLTAGE one clamped field. -/
theorem groupCommands : Obligations.GroupCommands := by
  unfold Obligations.GroupCommands
  refine ⟨fun c g s taken number _ => ?_, fun c s taken => ?_⟩
  · let u := s.heard c.port c.header
    have u_fc : u.fc = s.fc := by simp [u]
    have u_group (g : Group) : u.group g = s.group g := State.group_of_fc u_fc g
    obtain ⟨t, run, answers⟩ := exec_command (k := .resetGroup) taken nofun (by simp [Command.badNumber, number])
    have performs : u.perform .resetGroup (commandBody c .resetGroup) = u.resetFault g := u.perform_resetGroup number
    obtain ⟨-, -, st, fc, fp, fs, -, -⟩ := (answers (u.resetFault g).1 (u.resetFault g).2 performs).blocks
    refine ⟨t, run, fun fault blocked => ?_, fun sound => ?_, ?_, fs.trans (by simp [u]), fp.trans (by simp [u]),
      st.trans (by simp [u])⟩
    · have answer := answers _ _ (performs.trans <| State.resetFault_faulty (u_group g ▸ fault))
      obtain ⟨-, -, -, fc, -⟩ := answer.blocks
      refine ⟨answer.answered, ?_, ?_⟩
      · rw [State.group_of_fc fc, State.putCause_causes, u_group, if_neg (by simp [blocked])]
        rfl
      · rw [State.group_of_fc fc, State.putCause_removed (by rwa [u_group]) (by rwa [u_group]), u_group]
        rfl
    · have answer := answers _ _ (performs.trans <| State.resetFault_sound (u_group g ▸ sound))
      obtain ⟨-, -, -, fc, -⟩ := answer.blocks
      exact ⟨answer.answered, fc.trans u_fc⟩
    · rw [State.group_of_fc fc, State.resetFault_ne (other_ne g), u_group]
  · obtain ⟨t, run, answers⟩ := exec_command (k := .setVoltage) taken nofun rfl
    have fc : (s.heard c.port c.header).fc = s.fc := by simp
    have rc : (s.heard c.port c.header).rc = s.rc := by simp
    have rect : (s.heard c.port c.header).rect = s.rect := by simp [State.rect, State.settings]
    refine ⟨t, run, ?_⟩
    rw [← fc, ← rc, ← rect]
    exact (answers ((s.heard c.port c.header).setVset c.arg.toNat) .done rfl).same

end Sys2Proof.Machine
end

section
/-! PROOF. The alarm table through every origination: the drops of STATUS frames raise PILOT CONGESTION, which merges
after its first raise on each port, so a table that is not near its limit keeps its entries (sections 7.3, 7.6 and
9.1). -/

namespace Sys2Proof.Machine

/-! ### The first entry that a test picks -/

theorem modFirst_map {α β : Type} {test : α → Bool} {g : α → α} (f : α → β) (same : ∀ a, test a → f (g a) = f a)
    (l : List α) : (modFirst test g l).map f = l.map f := by
  induction l with
  | nil => rfl
  | cons a as ih =>
    rw [modFirst]
    split
    next picked => simp [same a picked]
    next => simp [ih]

theorem mem_modFirst_of_not {α : Type} {test : α → Bool} (g : α → α) {a : α} {l : List α} (mem : a ∈ l)
    (passed : ¬ test a) : a ∈ modFirst test g l := by
  induction l with
  | nil => exact mem
  | cons b bs ih =>
    rw [modFirst]
    obtain rfl | later := List.mem_cons.mp mem
    · rw [if_neg passed]; exact List.mem_cons_self
    · split
      · exact List.mem_cons_of_mem _ later
      · exact List.mem_cons_of_mem _ (ih later)

theorem exists_mem_modFirst {α : Type} {test : α → Bool} (g : α → α) {l : List α} (found : l.any test) :
    ∃ a ∈ l, test a ∧ g a ∈ modFirst test g l := by
  induction l with
  | nil => simp at found
  | cons b bs ih =>
    rw [modFirst]
    by_cases picked : test b
    · exact ⟨b, List.mem_cons_self, picked, by simp [picked]⟩
    · obtain ⟨a, mem, test_a, after⟩ := ih (by simpa [picked] using found)
      exact ⟨a, List.mem_cons_of_mem _ mem, test_a, by simpa [picked] using .inr after⟩

/-! ### What the presentation leaves of an entry -/

/-- An entry but for its tag and for whether it is presented. -/
def Alarm.core (e : Alarm) : Alarm × Bool := (e.unjudged, e.state == .accepted)

theorem Reports.present_core (r : Reports) : r.present.1.table.map Alarm.core = r.table.map Alarm.core := by
  unfold Reports.present
  split
  · rfl
  · refine modFirst_map Alarm.core (fun e picked => ?_) r.table
    simp only [Reports.candidate, Bool.and_eq_true, beq_iff_eq] at picked
    simp [Alarm.core, Alarm.unjudged, picked.1.1]

theorem Reports.withdraw_core (r : Reports) : r.withdraw.table.map Alarm.core = r.table.map Alarm.core :=
  modFirst_map Alarm.core (fun e picked => by simp_all [Alarm.core, Alarm.unjudged]) r.table

theorem Reports.judge_core (r : Reports) : r.judge.1.table.map Alarm.core = r.table.map Alarm.core := by
  simp only [Reports.judge]
  (repeat' split)
  · exact r.present_core
  · exact (Reports.present_core _).trans r.withdraw_core
  · rfl
  · rfl

theorem exists_mem_of_core {l l' : List Alarm} (same : l'.map Alarm.core = l.map Alarm.core) {e : Alarm} (mem : e ∈ l) :
    ∃ e' ∈ l', e'.core = e.core :=
  List.mem_map.mp (same ▸ List.mem_map_of_mem mem)

/-- Whether a raise merges into an entry does not depend on the entry's presentation. -/
theorem Raise.merges_core (a : Raise) {e e' : Alarm} (same : e'.core = e.core) : a.merges e' = a.merges e := by
  simp only [Alarm.core, Alarm.unjudged, Prod.mk.injEq, Alarm.mk.injEq] at same
  obtain ⟨⟨kind, object, -⟩, accepted⟩ := same
  simp only [Raise.merges, kind, object, bne, accepted]

theorem any_merges_core (a : Raise) {l l' : List Alarm} (same : l'.map Alarm.core = l.map Alarm.core) :
    l'.any a.merges = l.any a.merges := by
  have transfer {l l' : List Alarm} (same : l'.map Alarm.core = l.map Alarm.core) (found : l.any a.merges = true) :
      l'.any a.merges = true := by
    obtain ⟨e, mem, merges⟩ := List.any_eq_true.mp found
    obtain ⟨e', mem', core⟩ := exists_mem_of_core same mem
    exact List.any_eq_true.mpr ⟨e', mem', by rwa [a.merges_core core]⟩
  exact Bool.eq_iff_iff.mpr ⟨transfer same.symm, transfer same⟩

/-! ### The room that PILOT CONGESTION may take -/

/-- The port has an entry that a PILOT CONGESTION merges into (R132, R162). -/
def Reports.congested (r : Reports) (p : Port) : Bool := r.table.any (congestion p 0).merges

/-- The length that the table can reach by raises of PILOT CONGESTION alone: one entry more for each port. -/
def Reports.reach (r : Reports) : Nat := r.table.length + (!r.congested 0).toNat + (!r.congested 1).toNat

theorem Reports.reach_le (r : Reports) : r.reach ≤ r.table.length + 2 := by
  have one (p : Port) : (!r.congested p).toNat ≤ 1 := Bool.toNat_le _
  have := one 0
  have := one 1
  unfold Reports.reach
  omega

theorem Reports.reach_of_core {r r' : Reports} (same : r'.table.map Alarm.core = r.table.map Alarm.core) :
    r'.reach = r.reach := by
  have length : r'.table.length = r.table.length := by simpa using congrArg List.length same
  simp only [Reports.reach, Reports.congested, length, any_merges_core _ same]

/-- A merge leaves what other raises merge into. -/
theorem Reports.reach_merged (r : Reports) (a : Raise) (now : Nat) :
    ({ r with table := modFirst a.merges (a.mergeInto now) r.table } : Reports).reach = r.reach := by
  let shape (e : Alarm) := (e.kind, e.object, e.state)
  have same : (modFirst a.merges (a.mergeInto now) r.table).map shape = r.table.map shape :=
    modFirst_map (g := a.mergeInto now) shape (fun _ _ => rfl) r.table
  have any (b : Raise) (l : List Alarm) : l.any b.merges =
      (l.map shape).any fun k => k.1 == b.kind && k.2.1 == b.object && k.2.2 != .accepted := by
    rw [List.any_map]; rfl
  have length := congrArg List.length same
  simp only [List.length_map] at length
  simp only [Reports.reach, Reports.congested, length, any, same]

/-- The entry of an alarm as `State.alarmed` asks for it, at a station time. -/
def Reports.holds (r : Reports) (k : AlarmKind) (o : AlarmObject) (now : Nat) (detail : Int) : Prop :=
  ∃ e ∈ r.table, e.kind = k ∧ e.object = o ∧ e.state ≠ .accepted ∧ e.last = now ∧ e.detail = some detail

theorem Reports.holds_of_core {r r' : Reports} {k : AlarmKind} {o : AlarmObject} {now : Nat} {detail : Int}
    (same : r'.table.map Alarm.core = r.table.map Alarm.core) (h : r.holds k o now detail) :
    r'.holds k o now detail := by
  obtain ⟨e, mem, kind, object, state, last, found⟩ := h
  obtain ⟨e', mem', core⟩ := exists_mem_of_core same mem
  simp only [Alarm.core, Alarm.unjudged, Prod.mk.injEq, Alarm.mk.injEq] at core
  obtain ⟨⟨kind', object', -, -, -, last', -, detail', -⟩, accepted⟩ := core
  refine ⟨e', mem', kind'.trans kind, object'.trans object, fun taken => state ?_, last'.trans last,
    detail'.trans found⟩
  simpa [taken] using accepted.symm

/-- A raise in a table with room: a merge, or an entry at the end and a judgement of the presentation (R162, R163). -/
theorem Reports.raise_cases (r : Reports) (a : Raise) (now : Nat) :
    (r.table.any a.merges = true ∧
        (r.raise a now).1 = { r with table := modFirst a.merges (a.mergeInto now) r.table }) ∨
      (r.table.any a.merges = false ∧
        (r.table.length < 32 → (r.raise a now).1.table.map Alarm.core =
          (r.table ++ [a.entry now]).map Alarm.core)) := by
  cases found : r.table.any a.merges with
  | true => exact .inl ⟨rfl, by simp [Reports.raise, found]⟩
  | false =>
    refine .inr ⟨rfl, fun room => ?_⟩
    rw [Reports.raise, found, if_neg (by simp), Reports.add, if_pos room]
    exact Reports.judge_core _

/-- A new entry takes one place, and one of PILOT CONGESTION takes the place kept for its port. -/
theorem Reports.reach_added {r : Reports} {a : Raise} (now : Nat) (new : r.table.any a.merges = false)
    (room : r.table.length < 32) :
    (r.raise a now).1.reach ≤ r.reach + 1 ∧
      (∀ p drops, a = congestion p drops → (r.raise a now).1.reach ≤ r.reach) := by
  obtain ⟨found, -⟩ | ⟨-, table⟩ := r.raise_cases a now
  · simp [found] at new
  have core : (r.raise a now).1.table.map Alarm.core = (r.table ++ [a.entry now]).map Alarm.core := table room
  have congested (p : Port) : ({ r with table := r.table ++ [a.entry now] } : Reports).congested p =
      (r.congested p || (a.kind == .pilotCongestion && a.object == .port p)) := by
    simp [Reports.congested, Raise.merges, Raise.entry, congestion, AlarmKind.raised,
      show (AlarmState.pending != .accepted) = true from rfl]
  rw [Reports.reach_of_core (r := { r with table := r.table ++ [a.entry now] }) core]
  simp only [Reports.reach, congested, List.length_append, List.length_singleton]
  refine ⟨?_, fun p drops congestion_a => ?_⟩
  · have fewer (b c : Bool) : (!(b || c)).toNat ≤ (!b).toNat := by cases b <;> cases c <;> decide
    have := fewer (r.congested 0) (a.kind == .pilotCongestion && a.object == .port 0)
    have := fewer (r.congested 1) (a.kind == .pilotCongestion && a.object == .port 1)
    omega
  · subst congestion_a
    have free : r.congested p = false := new
    match p with
    | 0 => simp [free, congestion, AlarmKind.raised, show (AlarmObject.port 0 == .port 1) = false from rfl]
    | 1 => simp [free, congestion, AlarmKind.raised, show (AlarmObject.port 1 == .port 0) = false from rfl]; omega

theorem Reports.length_le_reach (r : Reports) : r.table.length ≤ r.reach := by
  unfold Reports.reach; omega

theorem Reports.length_lt_reach {r : Reports} {p : Port} (free : r.congested p = false) :
    r.table.length < r.reach := by
  match p with
  | 0 => simp [Reports.reach, free]; omega
  | 1 => simp [Reports.reach, free]

/-- PILOT CONGESTION takes no more room than is kept for it. -/
theorem Reports.reach_congestion {r : Reports} {n : Nat} (limit : n ≤ 32) (reach : r.reach ≤ n) (p : Port) (drops : Nat)
    (now : Nat) : (r.raise (congestion p drops) now).1.reach ≤ n := by
  obtain ⟨-, table⟩ | ⟨new, -⟩ := r.raise_cases (congestion p drops) now
  · rw [table, r.reach_merged]; exact reach
  · have free : r.congested p = false := new
    have := Reports.length_lt_reach free
    exact ((Reports.reach_added now new (by omega)).2 p drops rfl).trans reach

/-- Any other raise takes one place more at most. -/
theorem Reports.reach_raise {r : Reports} {n : Nat} (limit : n < 32) (reach : r.reach ≤ n) (a : Raise) (now : Nat) :
    (r.raise a now).1.reach ≤ n + 1 := by
  obtain ⟨-, table⟩ | ⟨new, -⟩ := r.raise_cases a now
  · rw [table, r.reach_merged]; omega
  · have := r.length_le_reach
    exact (Reports.reach_added now new (by omega)).1.trans (by omega)

/-- What is raised in a table with room stands in it (R162, R163). -/
theorem Reports.holds_raise {r : Reports} (room : r.table.length < 32) (k : AlarmKind) (o : AlarmObject)
    (cause : Option Cause) (detail : Int) (now : Nat) :
    (r.raise (k.raised o cause detail) now).1.holds k o now detail := by
  obtain ⟨found, table⟩ | ⟨-, table⟩ := r.raise_cases (k.raised o cause detail) now
  · obtain ⟨e, -, merges, mem⟩ := exists_mem_modFirst ((k.raised o cause detail).mergeInto now) found
    simp only [Raise.merges, Bool.and_eq_true, beq_iff_eq, bne_iff_ne] at merges
    obtain ⟨⟨kind, object⟩, state⟩ := merges
    rw [table]
    exact ⟨_, mem, kind, object, state, rfl, rfl⟩
  · refine Reports.holds_of_core (r := { r with table := _ }) (table room)
      ⟨_, List.mem_append_right _ List.mem_cons_self, rfl, rfl, ?_, rfl, rfl⟩
    simp [Raise.entry]

/-- An entry of another kind outlasts PILOT CONGESTION in a table with the room for it. -/
theorem Reports.holds_congestion {r : Reports} {k : AlarmKind} {o : AlarmObject} {now : Nat} {detail : Int}
    (kind_ne : k ≠ .pilotCongestion) (h : r.holds k o now detail) (reach : r.reach ≤ 32) (p : Port)
    (drops later : Nat) : (r.raise (congestion p drops) later).1.holds k o now detail := by
  obtain ⟨e, mem, kind, rest⟩ := h
  obtain ⟨-, table⟩ | ⟨new, table⟩ := r.raise_cases (congestion p drops) later
  · rw [table]
    refine ⟨e, mem_modFirst_of_not _ mem fun merges => kind_ne ?_, kind, rest⟩
    simp only [Raise.merges, Bool.and_eq_true, beq_iff_eq] at merges
    exact kind.symm.trans merges.1.1
  · have := Reports.length_lt_reach (p := p) new
    exact Reports.holds_of_core (r := { r with table := _ }) (table (by omega))
      ⟨e, List.mem_append_left _ mem, kind, rest⟩

/-! ### Every way to send -/

/-- A property of the alarm table that no raise of PILOT CONGESTION ends. -/
def OutlastsCongestion (q : Reports → Prop) : Prop :=
  ∀ r, q r → ∀ (p : Port) (drops now : Nat), q (r.raise (congestion p drops) now).1

theorem outlasts_reach {n : Nat} (limit : n ≤ 32) : OutlastsCongestion fun r => r.reach ≤ n :=
  fun _ reach p drops now => Reports.reach_congestion limit reach p drops now

theorem outlasts_holds {k : AlarmKind} (kind_ne : k ≠ .pilotCongestion) (o : AlarmObject) (now : Nat) (detail : Int) :
    OutlastsCongestion fun r => r.holds k o now detail ∧ r.reach ≤ 32 :=
  fun _ ⟨h, reach⟩ p drops later =>
    ⟨Reports.holds_congestion kind_ne h reach p drops later, Reports.reach_congestion le_rfl reach p drops later⟩

/-- A frame that reaches a port raises PILOT CONGESTION at most (R132). -/
theorem State.enqueue_rc (s : State) (p : Port) (f : QFrame) :
    (s.enqueue p f).1.rc = s.rc ∨ ∃ drops, (s.enqueue p f).1.rc = (s.rc.raise (congestion p drops) s.time).1 := by
  unfold State.enqueue
  split
  · exact .inl rfl
  · cases f.frame.payload.frameClass <;> dsimp only <;> split
    · exact .inr ⟨_, rfl⟩
    · exact .inl rfl
    · exact .inr ⟨_, rfl⟩
    · exact .inl rfl

section
variable {q : Reports → Prop} (outlasts : OutlastsCongestion q)
include outlasts

theorem State.enqueue_outlasts {s : State} (p : Port) (f : QFrame) (h : q s.rc) : q (s.enqueue p f).1.rc := by
  obtain same | ⟨drops, raised⟩ := s.enqueue_rc p f
  · rwa [same]
  · rw [raised]
    exact outlasts s.rc h p drops s.time

theorem State.enqueueOn_outlasts {s : State} (named : Port → Bool) (f : QFrame) (h : q s.rc) :
    q (s.enqueueOn named f).1.rc := by
  have step (u : State) (p : Port) (h : q u.rc) : q (if named p then u.enqueue p f else (u, 0)).1.rc := by
    split
    · exact State.enqueue_outlasts outlasts p f h
    · exact h
  exact step _ 1 (step s 0 h)

theorem State.originateWith_outlasts {an : Nat → State → State} (announces : ∀ n (s : State), q s.rc → q (an n s).rc)
    (b : Payload) (c : Scope) (n : Port → Bool) (mark : Bool) {s : State} (h : q s.rc) :
    q (s.originateWith an b c n mark).rc :=
  announces _ _ (State.enqueueOn_outlasts outlasts n _ h)

theorem State.statusWith_outlasts {an : Nat → State → State} (announces : ∀ n (s : State), q s.rc → q (an n s).rc)
    {s : State} (h : q s.rc) : q (s.statusWith an).rc := by
  unfold State.statusWith
  split
  · exact h
  · exact State.originateWith_outlasts outlasts announces _ _ _ _ h

theorem announceWithin_outlasts (d n : Nat) {s : State} (h : q s.rc) : q (announceWithin d n s).rc := by
  have repeated (g : State → State) (step : ∀ s : State, q s.rc → q (g s).rc) (n : Nat) (s : State) (h : q s.rc) :
      q (times n g s).rc := by
    induction n generalizing s with
    | zero => exact h
    | succ n ih => exact ih _ (step s h)
  induction d generalizing n s with
  | zero => exact h
  | succ d ih => exact repeated _ (fun s h => State.statusWith_outlasts outlasts (fun n s h => ih n h) h) n s h

theorem State.announce_outlasts (n : Nat) {s : State} (h : q s.rc) : q (s.announce n).rc :=
  announceWithin_outlasts outlasts 4 n h

theorem State.status_outlasts {s : State} (h : q s.rc) : q s.status.rc :=
  State.statusWith_outlasts outlasts (fun n _ h => State.announce_outlasts outlasts n h) h

end

/-- An alarm raised in a table that is not near its limit stands in it afterwards. -/
theorem State.alarm_alarmed {s : State} {k : AlarmKind} (kind_ne : k ≠ .pilotCongestion) (reach : s.rc.reach ≤ 31)
    (o : AlarmObject) (cause : Option Cause) (detail : Int) :
    (s.alarm k o cause detail).rc.holds k o s.time detail := by
  have length := s.rc.length_le_reach
  have raised : (s.tabled (k.raised o cause detail)).1.rc.holds k o s.time detail ∧
      (s.tabled (k.raised o cause detail)).1.rc.reach ≤ 32 :=
    ⟨Reports.holds_raise (by omega) k o cause detail s.time, Reports.reach_raise (by omega) reach _ _⟩
  exact (State.announce_outlasts (outlasts_holds kind_ne o s.time detail) _ raised).1

end Sys2Proof.Machine
end

section
/-! PROOF. A sample on a group's current lane: Ibus, MEASURE, and the overcurrent run (sections 1.4, 1.6 and 3.3). -/

namespace Sys2Proof.Machine

/-! ### What a block cause does to its own group -/

@[simp] theorem State.putCause_overRun (m : BlockCause) (b : Bool) (g : Group) (s : State) :
    ((s.putCause m b g).group g).overRun = (s.group g).overRun := by
  simp only [State.putCause]
  (repeat' split) <;> simp [State.blockGroup_group_self, State.startGroup_group_self]

/-- A cause added to a group that is not OFF leaves it BLOCKED (R37, R38). -/
theorem State.putCause_blocked {m : BlockCause} {g : Group} {s : State} (on : (s.group g).state ≠ .off)
    (absent : (s.group g).causes.has m = false) : ((s.putCause m true g).group g).state = .blocked := by
  have notEmpty : ((s.group g).causes.put m true).isEmpty = false := by
    rw [Bool.eq_false_iff]
    intro empty
    simpa using CauseSet.has_of_isEmpty empty m
  simp only [State.putCause]
  rw [if_neg (by simp [on, absent])]
  split
  · simp [State.blockGroup_group_self]
  next quiet =>
    rw [notEmpty, if_neg (by simp), State.modGroup_group_self]
    cases state : (s.group g).state <;> simp_all [GroupState.fires]

/-- A group that does not fire has neither a pulse nor an armed firing (R36, R38). -/
def GroupRec.Idle (r : GroupRec) : Prop := r.state.fires = false → r.pulse = none ∧ r.armed = none

theorem State.FiringOk.idle {s : State} (ok : s.FiringOk) (g : Group) : (s.group g).Idle := fun quiet =>
  ((ok.groups g).quiet quiet).imp_right And.left

theorem State.putCause_idle (m : BlockCause) (b : Bool) (g : Group) (s : State) (idle : (s.group g).Idle) :
    ((s.putCause m b g).group g).Idle := by
  simp only [State.putCause]
  (repeat' split)
  · exact idle
  · simp [State.blockGroup_group_self, GroupRec.Idle]
  · simp [State.startGroup_group_self, GroupRec.Idle, GroupState.fires]
  · simpa [GroupRec.Idle] using idle

/-- What a block cause does to the alarm table is what a STATUS does. -/
theorem State.putCause_outlasts {q : Reports → Prop} (outlasts : OutlastsCongestion q) (m : BlockCause) (b : Bool)
    (g : Group) {s : State} (h : q s.rc) : q (s.putCause m b g).rc := by
  have status (u : State) (rc : u.rc = s.rc) : q u.status.rc := State.status_outlasts outlasts (rc ▸ h)
  simp only [State.putCause]
  (repeat' split)
  · exact h
  · exact status _ (by simp)
  · exact status _ (by simp)
  · simpa using h

/-! ### The arrival -/

@[simp] theorem laneUse_groupLane (g : Group) : laneUse (groupLane g) = .group g := by
  revert g; decide

/-- The state after the lane record and Ibus have taken an arrival. -/
def State.groupArrival (s : State) (g : Group) (raw : Word16) : State := (s.takeArrival (groupLane g) raw).formIbus

theorem State.formIbus_lane (s : State) (l : Lane) : s.formIbus.lane l = s.lane l := by
  simp [State.formIbus, State.lane]

@[simp] theorem State.groupArrival_frame (s : State) (g : Group) (raw : Word16) :
    s.onlyLiSc (s.groupArrival g raw) := by
  simp [State.onlyLiSc, State.groupArrival]

theorem exec_sampleArrival_group (g : Group) (raw : Word16) (s : State) :
    exec (.sampleArrival (groupLane g) raw) s =
      .next (((s.groupArrival g raw).handHealth (groupLane g) (s.lane (groupLane g)).health 1).notice (groupLane g)
        (validCode raw) (s.silent (groupLane g))) := by
  simp [exec, execSampleArrival, State.arrive, State.derive, State.groupArrival]

/-! ### The other group -/

/-- The second state differs from the first in nothing that the statement about group `g` leaves alone. -/
structure State.GroupOnly (g : Group) (s t : State) : Prop where
  group : t.group (other g) = s.group (other g)
  fs : t.fs = s.fs
  fp : t.fp = s.fp
  st : t.st = s.st

theorem State.GroupOnly.trans {g : Group} {s t u : State} (h : s.GroupOnly g t) (k : t.GroupOnly g u) :
    s.GroupOnly g u :=
  ⟨k.group.trans h.group, k.fs.trans h.fs, k.fp.trans h.fp, k.st.trans h.st⟩

theorem State.GroupOnly.of_fc {g : Group} {s t : State} (fc : t.fc = s.fc)
    (blocks : t.fs = s.fs ∧ t.fp = s.fp ∧ t.st = s.st) : s.GroupOnly g t :=
  ⟨State.group_of_fc fc _, blocks.1, blocks.2.1, blocks.2.2⟩

theorem State.GroupOnly.refl (g : Group) (s : State) : s.GroupOnly g s := .of_fc rfl ⟨rfl, rfl, rfl⟩

theorem State.GroupOnly.modGroup (g : Group) (s : State) (h : GroupRec → GroupRec) : s.GroupOnly g (s.modGroup g h) :=
  ⟨s.modGroup_group_ne h (other_ne g), rfl, rfl, rfl⟩

theorem State.GroupOnly.putCause (g : Group) (s : State) (m : BlockCause) (b : Bool) :
    s.GroupOnly g (s.putCause m b g) :=
  ⟨s.putCause_group_ne m b (other_ne g), by simp, by simp, by simp⟩

theorem State.GroupOnly.handHealth (g : Group) (s : State) (was : Health) (d : Int) :
    s.GroupOnly g (s.handHealth (groupLane g) was d) := by
  have healthChanged (u : State) : u.GroupOnly g (u.groupHealth g) := by
    simp only [State.groupHealth]
    split
    · exact .putCause g u _ _
    · exact (State.GroupOnly.putCause g u _ _).trans (.modGroup g _ _)
  simp only [State.handHealth, State.healthChanged, laneUse_groupLane]
  split
  · exact .refl g s
  · split
    · exact (State.GroupOnly.of_fc (by simp) (by simp)).trans (healthChanged _)
    · exact healthChanged s

theorem State.GroupOnly.judgeOvercurrent (g : Group) (s : State) : s.GroupOnly g (s.judgeOvercurrent g) := by
  simp only [State.judgeOvercurrent]
  (repeat' split)
  · exact .refl g s
  · exact .modGroup g s _
  · exact .modGroup g s _
  · exact ((State.GroupOnly.modGroup g s fun r => { r with overRun := 0 }).trans (.putCause g _ .fault true)).trans
      (.of_fc (by simp) (by simp))

theorem State.GroupOnly.notice (g : Group) (s : State) (valid silent : Bool) :
    s.GroupOnly g (s.notice (groupLane g) valid silent) := by
  simp only [State.notice, laneUse_groupLane, State.groupNotice]
  (repeat' split)
  · exact .judgeOvercurrent g s
  · exact .refl g s
  · exact .refl g s

theorem exec_sampleArrival_groupOnly (g : Group) (raw : Word16) (s : State) :
    ∃ t, exec (.sampleArrival (groupLane g) raw) s = .next t ∧ s.GroupOnly g t :=
  ⟨_, exec_sampleArrival_group g raw s,
    ((State.GroupOnly.of_fc (by simp) (by simp)).trans (.handHealth g (s.groupArrival g raw) _ _)).trans
      (.notice g _ _ _)⟩

/-! ### The overcurrent run (R41) -/

section
variable {g : Group} {s : State} (on : (s.group g).state ≠ .off) (sound : (s.group g).causes.fault = false)
include on sound

theorem State.judgeOvercurrent_below (below : s.groupCurrent g < s.rect.igfault) :
    s.judgeOvercurrent g = s.modGroup g fun r => { r with overRun := 0 } := by
  simp [State.judgeOvercurrent, on, sound, below]

theorem State.judgeOvercurrent_first (above : s.rect.igfault ≤ s.groupCurrent g) (first : (s.group g).overRun = 0) :
    s.judgeOvercurrent g = s.modGroup g fun r => { r with overRun := 1 } := by
  simp [State.judgeOvercurrent, on, sound, above.not_gt, first]

theorem State.judgeOvercurrent_second (above : s.rect.igfault ≤ s.groupCurrent g) (second : (s.group g).overRun ≠ 0) :
    s.judgeOvercurrent g =
      ((s.modGroup g fun r => { r with overRun := 0 }).putCause .fault true g).alarm .groupFault (.group g) none
        (s.groupCurrent g) := by
  simp [State.judgeOvercurrent, on, sound, above.not_gt, second]

end

theorem State.judgeOvercurrent_none {g : Group} {s : State}
    (h : (s.group g).state = .off ∨ (s.group g).causes.fault = true) : s.judgeOvercurrent g = s := by
  simp only [State.judgeOvercurrent]
  exact if_pos h

/-- The second value at Igfault or above puts FAULT on the group and raises GROUP FAULT (R41). -/
theorem State.judgeOvercurrent_faults {g : Group} {s : State} (on : (s.group g).state ≠ .off)
    (sound : (s.group g).causes.fault = false) (above : s.rect.igfault ≤ s.groupCurrent g)
    (second : (s.group g).overRun ≠ 0) :
    ((s.judgeOvercurrent g).group g).overRun = 0 ∧ ((s.judgeOvercurrent g).group g).causes.fault = true ∧
      ((s.judgeOvercurrent g).group g).state = .blocked ∧
      ((s.group g).Idle →
        ((s.judgeOvercurrent g).group g).pulse = none ∧ ((s.judgeOvercurrent g).group g).armed = none) ∧
      (s.rc.reach ≤ 31 → (s.judgeOvercurrent g).rc.holds .groupFault (.group g) s.time (s.groupCurrent g)) := by
  let u := s.modGroup g fun r => { r with overRun := 0 }
  have u_group : u.group g = { s.group g with overRun := 0 } := s.modGroup_group_self g _
  rw [State.judgeOvercurrent_second on sound above second,
    State.group_of_fc (s := u.putCause .fault true g) (by simp [u])]
  have blocked : ((u.putCause .fault true g).group g).state = .blocked :=
    State.putCause_blocked (by rwa [u_group]) (by rw [u_group]; exact sound)
  refine ⟨by simp [u], ?_, blocked, fun idle => ?_, fun reach => ?_⟩
  · rw [State.putCause_causes, u_group, if_neg on]
    rfl
  · exact State.putCause_idle .fault true g u (by rw [u_group]; exact idle) (by rw [blocked]; rfl)
  · have room : (u.putCause .fault true g).rc.reach ≤ 31 :=
      State.putCause_outlasts (outlasts_reach (by decide)) _ _ _ (by simpa [u] using reach)
    have time : (u.putCause .fault true g).time = s.time := by simp [State.time, u]
    rw [← time]
    exact State.alarm_alarmed (by decide) room _ _ _

/-! ### The group before its notice -/

/-- The second state comes from the first by an arrival on the lane of a group, before the notice is judged: MEASURE at
most has changed in the group. -/
structure State.Measured (g : Group) (s t : State) : Prop where
  overRun : (t.group g).overRun = (s.group g).overRun
  fault : (t.group g).causes.fault = (s.group g).causes.fault
  off : (t.group g).state = .off ↔ (s.group g).state = .off
  idle : (s.group g).Idle → (t.group g).Idle
  clock : t.clock = s.clock
  cl : t.cl = s.cl
  reach : s.rc.reach ≤ 31 → t.rc.reach ≤ 31

theorem State.Measured.of_fc {g : Group} {s t : State} (fc : t.fc = s.fc)
    (blocks : t.clock = s.clock ∧ t.cl = s.cl ∧ t.rc = s.rc) : s.Measured g t := by
  obtain ⟨clock, cl, rc⟩ := blocks
  have group := State.group_of_fc fc g
  exact ⟨by rw [group], by rw [group], by rw [group], by rw [group]; exact id, clock, cl, by rw [rc]; exact id⟩

theorem State.Measured.judgeMeasure {g : Group} {s u : State} (h : s.Measured g u) :
    s.Measured g (u.judgeMeasure g) := by
  refine ⟨(u.putCause_overRun _ _ g).trans h.overRun, ?_, (u.putCause_off _ _ g).trans h.off,
    fun idle => u.putCause_idle _ _ g (h.idle idle), ?_, ?_,
    fun reach => State.putCause_outlasts (outlasts_reach (by decide)) _ _ _ (h.reach reach)⟩
  · rw [State.judgeMeasure, State.putCause_causes, ← h.fault]
    split <;> rfl
  · exact (by simp : (u.judgeMeasure g).clock = u.clock).trans h.clock
  · exact (by simp : (u.judgeMeasure g).cl = u.cl).trans h.cl

theorem State.groupArrival_lane (s : State) (g : Group) (raw : Word16) :
    (s.groupArrival g raw).lane (groupLane g) =
      { if validCode raw then (s.lane (groupLane g)).good (s.scaled (groupLane g) raw)
        else (s.lane (groupLane g)).bad with
        silence := s.after 300 } := by
  rw [State.groupArrival, State.formIbus_lane]
  simp [State.takeArrival]

/-- A lane is FRESH after a valid sample exactly if it was, or if the sample proves it so (R4). -/
theorem LaneRec.good_fresh_iff (r : LaneRec) (v : Int) : (r.good v).health = .fresh ↔ r.provesFresh := by
  simp only [LaneRec.good, LaneRec.provesFresh]
  split
  · exact iff_of_true rfl (.inr (by omega))
  · exact ⟨.inl, fun h => h.resolve_right (by omega)⟩

/-- A valid sample changes a lane's health from STALE to FRESH at most (R4). -/
theorem LaneRec.good_health (r : LaneRec) (v : Int) :
    (r.good v).health = r.health ∨ (r.health = .stale ∧ (r.good v).health = .fresh) := by
  simp only [LaneRec.good]
  cases r.health <;> split <;> simp

/-- An invalid sample keeps the health of a lane that it does not make STALE (R3). -/
theorem LaneRec.bad_health {r : LaneRec} (kept : ¬ r.nearStale) : r.bad.health = r.health := by
  simp only [LaneRec.nearStale, LaneRec.bad] at kept ⊢
  split
  · cases health : r.health with
    | fresh => exact absurd ⟨health, by omega⟩ kept
    | stale => rfl
  · rfl

/-- An invalid sample that leaves the lane's health reaches nothing but the lane, Ibus and the load index. -/
theorem exec_sampleArrival_group_invalid {g : Group} {raw : Word16} {s : State} (invalid : raw = 32768)
    (kept : ¬ (s.lane (groupLane g)).nearStale) :
    exec (.sampleArrival (groupLane g) raw) s = .next (s.groupArrival g raw) := by
  have code : validCode raw = false := by simp [validCode, invalid]
  have health : ((s.groupArrival g raw).lane (groupLane g)).health = (s.lane (groupLane g)).health := by
    rw [s.groupArrival_lane, code]
    exact LaneRec.bad_health kept
  rw [exec_sampleArrival_group, State.handHealth, if_pos health]
  simp [State.notice, code]

/-- A valid sample is judged after MEASURE has followed the lane. -/
theorem exec_sampleArrival_group_valid {g : Group} {raw : Word16} (s : State) (valid : raw ≠ 32768) :
    ∃ w, exec (.sampleArrival (groupLane g) raw) s = .next (w.groupNotice g) ∧ s.Measured g w ∧
      w.groupCurrent g = s.scaled (groupLane g) raw ∧
      (w.laneFresh (groupLane g) = true ↔ (s.lane (groupLane g)).provesFresh) := by
  have code : validCode raw = true := by simpa [validCode] using valid
  let u := s.groupArrival g raw
  have lane : u.lane (groupLane g) =
      { (s.lane (groupLane g)).good (s.scaled (groupLane g) raw) with silence := s.after 300 } := by
    rw [s.groupArrival_lane, code, if_pos rfl]
  have arrived : s.Measured g u := .of_fc (by simp [u]) (by simp [u])
  have handed : ∃ w, u.handHealth (groupLane g) (s.lane (groupLane g)).health 1 = w ∧ s.Measured g w ∧ w.li = u.li := by
    obtain same | ⟨stale, fresh⟩ := (s.lane (groupLane g)).good_health (s.scaled (groupLane g) raw)
    · exact ⟨u, if_pos (by rw [lane]; exact same), arrived, rfl⟩
    · have laneFresh : (u.judgeMeasure g).laneFresh (groupLane g) = true := by
        simp [State.laneFresh, State.lane_of_li (s := u) (t := u.judgeMeasure g) (by simp), lane, fresh]
      refine ⟨u.judgeMeasure g, ?_, arrived.judgeMeasure, by simp⟩
      simp [State.handHealth, State.healthChanged, State.groupHealth, lane, stale, fresh, laneFresh]
  obtain ⟨w, handed, measured, li⟩ := handed
  refine ⟨w, ?_, measured, ?_, ?_⟩
  · rw [exec_sampleArrival_group]
    simp [u, handed, State.notice, code]
  · rw [State.groupCurrent, State.lane_of_li li, lane]
    rfl
  · rw [State.laneFresh, State.lane_of_li li, lane, beq_iff_eq]
    exact LaneRec.good_fresh_iff _ (s.scaled (groupLane g) raw)

/-- Settles O11: a valid sample reaches `judgeOvercurrent` with the group's run and FAULT as they were, and an invalid
one does not reach it. -/
theorem groupOvercurrent : Obligations.GroupOvercurrent := by
  unfold Obligations.GroupOvercurrent
  intro g raw s
  obtain ⟨t, run, only⟩ := exec_sampleArrival_groupOnly g raw s
  have invalid (h : raw = 32768) (kept : ¬ (s.lane (groupLane g)).nearStale) : t.group g = s.group g := by
    obtain rfl : t = s.groupArrival g raw :=
      Host.Outcome.next.inj (run.symm.trans (exec_sampleArrival_group_invalid h kept))
    exact State.group_of_fc (by simp) g
  refine ⟨t, run, fun valid proved on sound => ?_, invalid, fun none_ kept => ?_, only.group, only.fs, only.fp, only.st⟩
  · obtain ⟨w, run', measured, current, fresh⟩ := exec_sampleArrival_group_valid (g := g) s valid
    obtain rfl : t = w.judgeOvercurrent g :=
      (Host.Outcome.next.inj (run.symm.trans run')).trans (if_pos (fresh.mpr proved))
    have w_on := mt measured.off.mp on
    have w_sound := measured.fault.trans sound
    have rect : w.rect = s.rect := congrArg Settings.rectifier (State.settings_of_cl measured.cl)
    rw [← current, ← rect, ← measured.overRun]
    refine ⟨fun below => ?_, fun above first => ?_, fun above second => ?_⟩
    · rw [State.judgeOvercurrent_below w_on w_sound below]
      simp [w_sound]
    · rw [State.judgeOvercurrent_first w_on w_sound above first]
      simp [w_sound]
    · obtain ⟨overRun, fault, blocked, quiet, raised⟩ := State.judgeOvercurrent_faults w_on w_sound above second
      refine ⟨overRun, fault, blocked, fun ok => quiet (measured.idle (ok.idle g)), fun room => ?_⟩
      have time : w.time = s.time := by simp only [State.time, measured.clock]
      rw [← time]
      exact raised (measured.reach (s.rc.reach_le.trans (by omega)))
  · by_cases valid : raw = 32768
    · rw [invalid valid kept]
      exact ⟨rfl, rfl⟩
    · obtain ⟨w, run', measured, -⟩ := exec_sampleArrival_group_valid (g := g) s valid
      have unjudged : t = w := by
        rw [Host.Outcome.next.inj (run.symm.trans run'), State.groupNotice, State.judgeOvercurrent_none, ite_self]
        rwa [measured.off, measured.fault]
      rw [unjudged]
      exact ⟨measured.overRun, measured.fault⟩

end Sys2Proof.Machine
end

section
/-! PROOF. A sample on the busbar lane or on a feeder's line-side lane: each of the notice's steps as one change of one
record, read from the lanes as the arrival leaves them (sections 1.4, 3.7, 4.4, 6.2, 6.4 and 6.5). -/

namespace Sys2Proof.Machine

/-! ### A record that takes its own value -/

theorem State.modProt_of_eq {s : State} {f : Feeder} {h : ProtRec → ProtRec} (same : h (s.prot f) = s.prot f) :
    s.modProt f h = s := by
  rw [State.modProt, same]
  simp [State.prot]

theorem State.modFeeder_of_eq {s : State} {f : Feeder} {h : FeederRec → FeederRec}
    (same : h (s.feeder f) = s.feeder f) : s.modFeeder f h = s := by
  rw [State.modFeeder, same]
  simp [State.feeder]

theorem State.modProt_congr {s : State} {f : Feeder} {h k : ProtRec → ProtRec}
    (same : h (s.prot f) = k (s.prot f)) : s.modProt f h = s.modProt f k := by
  simp only [State.modProt, same]

theorem State.modFeeder_congr {s : State} {f : Feeder} {h k : FeederRec → FeederRec}
    (same : h (s.feeder f) = k (s.feeder f)) : s.modFeeder f h = s.modFeeder f k := by
  simp only [State.modFeeder, same]

theorem State.modFeeder_modFeeder (s : State) (f : Feeder) (h k : FeederRec → FeederRec) :
    (s.modFeeder f h).modFeeder f k = s.modFeeder f fun r => k (h r) := by
  simp [State.modFeeder, State.feeder]

/-! ### The steps of a notice as changes of records -/

/-- The protection record of a feeder after the LOWV step of a notice (R68). -/
def State.lowvRecord (s : State) (f : Feeder) (r : ProtRec) : ProtRec :=
  if s.evaluates f = true ∧ r.copy = .closed ∧ r.lowvPicked = false ∧ s.laneFresh 0 = true ∧
      s.laneFresh (lineLane f) = true then
    { r with
      lowvTimer :=
        if s.vl f < (s.feederSet f).vlow ∧ (s.feederSet f).vsupplyMin ≤ s.vb then
          r.lowvTimer <|> some (s.clock + (s.feederSet f).tlow * 1000)
        else none }
  else r

theorem State.watchLowv_eq (f : Feeder) (s : State) : s.watchLowv f = s.modProt f (s.lowvRecord f) := by
  simp only [State.watchLowv, Bool.and_eq_true, beq_iff_eq, Bool.not_eq_true', and_assoc]
  split
  next acts =>
    have record : s.lowvRecord f (s.prot f) = _ := if_pos acts
    split
    next runs =>
      refine State.modProt_congr (.trans ?_ record.symm)
      rw [if_pos runs]
      generalize s.prot f = r
      obtain ⟨_, _, _, _, _, _, _, _, _, timer, _, _, _⟩ := r
      cases timer <;> simp [State.after, msec]
    next stops => exact State.modProt_congr (.trans (by rw [if_neg stops]) record.symm)
  next passes => exact (State.modProt_of_eq (if_neg passes)).symm

/-- The feeder record after the SUPPLY step of a busbar notice (R104, R105). -/
def State.supplyRecord (s : State) (f : Feeder) (r : FeederRec) : FeederRec :=
  let low := decide (s.vb < (s.feederSet f).vsupplyMin)
  if s.evaluates f = true ∧ r.holds.supply ≠ low then
    let r := { r with holds := r.holds.put .supply low }
    { r with dead := r.deadTime (some (s.clock + (s.feederSet f).tdead * 1000)) }
  else r

/-- SUPPLY acts on the dead time alone: it neither drops a close nor ends a test, and no follower waits for it
(R104). -/
theorem State.setHold_supply (s : State) (f : Feeder) (low : Bool) :
    s.setHold f .supply low =
      if (s.feeder f).holds.supply = low then s
      else (s.modFeeder f fun r => { r with holds := r.holds.put .supply low }).judgeDead f := by
  have arises (u : State) : u.holdArises f .supply = u := by
    unfold State.holdArises
    split <;> simp_all
  simp only [State.setHold, HoldSet.has, arises, State.holdCeases, ite_self]

theorem State.judgeSupply_eq (f : Feeder) (s : State) : s.judgeSupply f = s.modFeeder f (s.supplyRecord f) := by
  let low := decide (s.vb < (s.feederSet f).vsupplyMin)
  have judged : s.judgeSupply f = if s.evaluates f = true then s.setHold f .supply low else s := rfl
  rw [judged, State.setHold_supply]
  by_cases acts : s.evaluates f = true ∧ (s.feeder f).holds.supply ≠ low
  · have record : s.supplyRecord f (s.feeder f) = _ := if_pos acts
    rw [if_pos acts.1, if_neg acts.2, State.judgeDead, State.modFeeder_modFeeder]
    exact State.modFeeder_congr record.symm
  · have record : s.supplyRecord f (s.feeder f) = s.feeder f := if_neg acts
    rw [State.modFeeder_of_eq record]
    split
    next evaluates => exact if_pos (not_not.mp (not_and.mp acts evaluates))
    next => rfl

/-- The feeder record after the agreement step of a notice (R116). -/
def State.agreementRecord (s : State) (f : Feeder) (r : FeederRec) : FeederRec :=
  { r with
    test := r.test.map fun x =>
      if x.stage = .secondHalf ∧
          (s.vl f < s.vb * (s.feederSet f).ktest / 256 ∨ s.vb < (s.feederSet f).vsupplyMin) then
        { x with agreement := some false }
      else x }

theorem State.judgeAgreement_eq (f : Feeder) (s : State) :
    s.judgeAgreement f = s.modFeeder f (s.agreementRecord f) := by
  simp only [State.judgeAgreement, State.disagrees, Bool.or_eq_true, decide_eq_true_eq]
  split
  next differs =>
    refine State.modFeeder_congr ?_
    simp only [State.agreementRecord, differs, and_true]
    generalize s.feeder f = r
    obtain ⟨_, _, _, _, _, _, _, _, _, _, _, _, _, _, _, _, test, _, _, _, _⟩ := r
    cases test with
    | none => rfl
    | some x => by_cases second : x.stage = .secondHalf <;> simp [second]
  next follows =>
    refine (State.modFeeder_of_eq ?_).symm
    simp only [State.agreementRecord, follows, and_false, if_false, Option.map_id']

/-- The live timer of a feeder after a notice of its line-side lane (R110). -/
def State.liveRecord (s : State) (f : Feeder) (r : FeederRec) : FeederRec :=
  { r with
    live :=
      if r.state = .tripped ∧ r.role = some .follower then
        if s.vl f ≤ (s.feederSet f).vlive then .stopped
        else if r.live = .stopped then .running (s.clock + 100000) else r.live
      else r.live }

theorem State.watchLive_eq (f : Feeder) (s : State) : s.watchLive f = s.modFeeder f (s.liveRecord f) := by
  simp only [State.watchLive]
  split
  next follows =>
    split
    next low => exact State.modFeeder_congr (by rw [State.liveRecord, if_pos follows, if_pos low])
    next high =>
      split
      next stopped =>
        exact State.modFeeder_congr (by rw [State.liveRecord, if_pos follows, if_neg high, if_pos stopped]; rfl)
      next runs =>
        exact (State.modFeeder_of_eq (by rw [State.liveRecord, if_pos follows, if_neg high, if_neg runs])).symm
  next leads => exact (State.modFeeder_of_eq (by rw [State.liveRecord, if_neg leads])).symm

/-- The protection record after the re-arm step of a notice of the line-side lane (R69). -/
def State.rearmRecord (s : State) (f : Feeder) (r : ProtRec) : ProtRec :=
  { r with
    lowvPicked := r.lowvPicked && decide (s.vl f ≤ (s.feederSet f).vlow + (s.feederSet f).vlow / 20) }

theorem State.rearmLowv_eq {f : Feeder} {s : State} (evaluates : s.evaluates f = true)
    (fresh : s.laneFresh (lineLane f) = true) : s.rearmLowv f = s.modProt f (s.rearmRecord f) := by
  simp only [State.rearmLowv, evaluates, fresh, Bool.true_and, decide_eq_true_eq]
  split
  next above => exact State.modProt_congr (by simp [State.rearmRecord, above.not_ge])
  next below => exact (State.modProt_of_eq (by simp [State.rearmRecord, not_lt.mp below])).symm

theorem State.watchBusbar_eq (s : State) :
    s.watchBusbar =
      { s with
        fc :=
          { s.fc with
            wakeTimer :=
              if s.fc.standby then
                if s.rect.vwake ≤ s.vb then none else s.fc.wakeTimer <|> some (s.clock + 20000)
              else s.fc.wakeTimer } } := by
  simp only [State.watchBusbar]
  split
  next =>
    split
    next => rfl
    next =>
      cases timer : s.fc.wakeTimer with
      | some d => rw [show (some d <|> some (s.clock + 20000)) = s.fc.wakeTimer from timer.symm]
      | none => simp [State.after, msec]
  next => rfl

/-! ### What the changes read -/

/-- Two states agree in what the changes of a notice read. -/
abbrev State.sameReading (s t : State) : Prop := t.li = s.li ∧ t.cl = s.cl ∧ t.clock = s.clock

theorem State.sameReading.supplyRecord {s t : State} (same : s.sameReading t) : t.supplyRecord = s.supplyRecord := by
  cases s
  cases t
  obtain ⟨rfl, rfl, rfl⟩ := same
  rfl

theorem State.sameReading.agreementRecord {s t : State} (same : s.sameReading t) :
    t.agreementRecord = s.agreementRecord := by
  cases s
  cases t
  obtain ⟨rfl, rfl, rfl⟩ := same
  rfl

/-! ### One change for each feeder -/

@[simp] theorem forFeeders_modProt_frame (h : Feeder → ProtRec → ProtRec) (s : State) :
    s.onlyFp (forFeeders (fun f t => t.modProt f (h f)) s) := by
  simp [State.onlyFp, forFeeders]

@[simp] theorem forFeeders_modFeeder_frame (h : Feeder → FeederRec → FeederRec) (s : State) :
    s.onlyFs (forFeeders (fun f t => t.modFeeder f (h f)) s) := by
  simp [State.onlyFs, forFeeders]

theorem forFeeders_modProt_prot (h : Feeder → ProtRec → ProtRec) (s : State) (f : Feeder) :
    (forFeeders (fun f t => t.modProt f (h f)) s).prot f = h f (s.prot f) := by
  match f with
  | 0 | 1 | 2 | 3 => simp [forFeeders]

theorem forFeeders_modFeeder_feeder (h : Feeder → FeederRec → FeederRec) (s : State) (f : Feeder) :
    (forFeeders (fun f t => t.modFeeder f (h f)) s).feeder f = h f (s.feeder f) := by
  match f with
  | 0 | 1 | 2 | 3 => simp [forFeeders]

/-! ### The arrivals -/

theorem State.takeArrival_lane_ne {l l' : Lane} (ne : l' ≠ l) (raw : Word16) (s : State) :
    (s.takeArrival l raw).lane l' = s.lane l' :=
  s.setLane_lane_ne _ ne

/-- A valid sample on a FRESH lane leaves it FRESH with the sample's value, so no health change is handed over (R4). -/
theorem State.takeArrival_fresh {l : Lane} {raw : Word16} {s : State} (valid : raw ≠ 32768)
    (fresh : s.laneFresh l = true) :
    ((s.takeArrival l raw).lane l).value = s.scaled l raw ∧ (s.takeArrival l raw).laneFresh l = true ∧
      (s.takeArrival l raw).handHealth l (s.lane l).health 1 = s.takeArrival l raw := by
  have lane := s.takeArrival_lane l (raw := raw) (by simpa [validCode] using valid)
  have was : (s.lane l).health = .fresh := beq_iff_eq.mp fresh
  have health : ((s.takeArrival l raw).lane l).health = .fresh := by
    rw [lane]
    exact (LaneRec.good_fresh_iff _ (s.scaled l raw)).mpr (.inl was)
  exact ⟨by rw [lane]; rfl, beq_iff_eq.mpr health, if_pos (health.trans was.symm)⟩

/-- The state after a valid sample on a FRESH busbar lane: the records are changed as the arrival `u` shows the
lanes. -/
def State.busbarSampled (u : State) : State :=
  State.watchBusbar
    (forFeeders (fun f t => t.modFeeder f (u.agreementRecord f))
      (forFeeders (fun f t => t.modFeeder f (u.supplyRecord f))
        (forFeeders (fun f t => t.modProt f (u.lowvRecord f)) u)))

theorem State.busbarNotice_eq {u : State} (fresh : u.laneFresh 0 = true) : u.busbarNotice = u.busbarSampled := by
  have lowv : forFeeders State.watchLowv u = forFeeders (fun f t => t.modProt f (u.lowvRecord f)) u := by
    simp only [forFeeders, State.watchLowv_eq]
    rfl
  have supply (v : State) (same : u.sameReading v) :
      forFeeders State.judgeSupply v = forFeeders (fun f t => t.modFeeder f (u.supplyRecord f)) v := by
    rw [← State.sameReading.supplyRecord same]
    simp only [forFeeders, State.judgeSupply_eq]
    rfl
  have agreement (v : State) (same : u.sameReading v) :
      forFeeders State.judgeAgreement v = forFeeders (fun f t => t.modFeeder f (u.agreementRecord f)) v := by
    rw [← State.sameReading.agreementRecord same]
    simp only [forFeeders, State.judgeAgreement_eq]
    rfl
  have stillFresh (v : State) (same : u.sameReading v) : v.laneFresh 0 = true :=
    (State.laneFresh_of_li same.1 0).trans fresh
  let lowvDone := forFeeders (fun f t => t.modProt f (u.lowvRecord f)) u
  let supplyDone := forFeeders (fun f t => t.modFeeder f (u.supplyRecord f)) lowvDone
  let agreementDone := forFeeders (fun f t => t.modFeeder f (u.agreementRecord f)) supplyDone
  have lowvSame : u.sameReading lowvDone := by simp [State.sameReading, lowvDone]
  have supplySame : u.sameReading supplyDone := by simp [State.sameReading, lowvDone, supplyDone]
  have agreementSame : u.sameReading agreementDone := by
    simp [State.sameReading, lowvDone, supplyDone, agreementDone]
  dsimp only [State.busbarNotice]
  rw [lowv, if_pos (stillFresh lowvDone lowvSame), supply lowvDone lowvSame, agreement supplyDone supplySame]
  exact if_pos (stillFresh agreementDone agreementSame)

@[simp] theorem laneUse_busbar : laneUse 0 = .busbar := rfl

@[simp] theorem laneUse_lineLane (f : Feeder) : laneUse (lineLane f) = .line f := by
  revert f; decide

theorem exec_sampleArrival_busbar {raw : Word16} {s : State} (valid : raw ≠ 32768) (fresh : s.laneFresh 0 = true) :
    exec (.sampleArrival 0 raw) s = .next (s.takeArrival 0 raw).busbarSampled := by
  obtain ⟨-, stillFresh, handed⟩ := State.takeArrival_fresh valid fresh
  have code : validCode raw = true := by simpa [validCode] using valid
  have arrival : s.arrive 0 raw = (s.takeArrival 0 raw).busbarNotice := by
    simp [State.arrive, State.derive, handed, State.notice, code]
  exact congrArg Host.Outcome.next (arrival.trans (State.busbarNotice_eq stillFresh))

/-- The state after a valid sample on the FRESH line-side lane of an enabled feeder. -/
def State.lineSampled (u : State) (f : Feeder) : State :=
  (((u.modProt f (u.rearmRecord f)).modProt f (u.lowvRecord f)).modFeeder f (u.liveRecord f)).modFeeder f
    (u.agreementRecord f)

theorem State.lineNotice_eq {f : Feeder} {u : State} (evaluates : u.evaluates f = true)
    (fresh : u.laneFresh (lineLane f) = true) : u.lineNotice f = u.lineSampled f := by
  dsimp only [State.lineNotice]
  rw [State.rearmLowv_eq evaluates fresh, State.watchLowv_eq, if_pos (by exact fresh), State.watchLive_eq,
    State.judgeAgreement_eq]
  rfl

theorem exec_sampleArrival_line {f : Feeder} {raw : Word16} {s : State} (valid : raw ≠ 32768)
    (evaluates : s.evaluates f = true) (fresh : s.laneFresh (lineLane f) = true) :
    exec (.sampleArrival (lineLane f) raw) s = .next ((s.takeArrival (lineLane f) raw).lineSampled f) := by
  obtain ⟨-, stillFresh, handed⟩ := State.takeArrival_fresh valid fresh
  have code : validCode raw = true := by simpa [validCode] using valid
  have arrival : s.arrive (lineLane f) raw = (s.takeArrival (lineLane f) raw).lineNotice f := by
    simp [State.arrive, State.derive, handed, State.notice, code]
  exact congrArg Host.Outcome.next (arrival.trans (State.lineNotice_eq evaluates stillFresh))

end Sys2Proof.Machine
end

section
/-! PROOF. The statement about the samples of the busbar lane and of the line-side lanes. -/

namespace Sys2Proof.Machine

/-! ### The feeders and their lanes -/

theorem State.evaluates_of_running {s : State} (running : s.cl.mode = .running) (f : Feeder) :
    s.evaluates f = s.feederEnabled f := by
  simp [State.evaluates, State.running, running]

theorem lineLane_ne_busbar (f : Feeder) : lineLane f ≠ 0 := by
  revert f; decide

/-! ### The records in the words of the statement -/

section
variable {s u : State} {f : Feeder} (set : u.feederSet f = s.feederSet f) (clock : u.clock = s.clock)
include set

include clock in
theorem State.lowvRecord_acts {r : ProtRec} (timer : r.lowvTimer = (s.prot f).lowvTimer)
    (evaluates : u.evaluates f = true) (closed : r.copy = .closed) (armed : r.lowvPicked = false)
    (busbar : u.laneFresh 0 = true) (line : u.laneFresh (lineLane f) = true) :
    u.lowvRecord f r = { r with lowvTimer := s.lowvTimerAt f (u.vl f) u.vb } := by
  rw [State.lowvRecord, if_pos ⟨evaluates, closed, armed, busbar, line⟩, State.lowvTimerAt, set, clock, timer]

theorem State.agreementRecord_test {r : FeederRec} (test : r.test = (s.feeder f).test) :
    u.agreementRecord f r = { r with test := s.testAt f (u.vl f) u.vb } := by
  rw [State.agreementRecord, State.testAt, set, test]

end

theorem State.lowvRecord_passes {u : State} {f : Feeder} {r : ProtRec}
    (h : u.evaluates f = false ∨ u.laneFresh 0 = false ∨ u.laneFresh (lineLane f) = false ∨ r.copy ≠ .closed ∨
      r.lowvPicked = true) : u.lowvRecord f r = r := by
  refine if_neg fun ⟨evaluates, closed, armed, busbar, line⟩ => ?_
  simp [evaluates, closed, armed, busbar, line] at h

/-- The LOWV step changes the LOWV timer alone (R68). -/
theorem State.lowvRecord_timer (u : State) (f : Feeder) (r : ProtRec) :
    u.lowvRecord f r = { r with lowvTimer := (u.lowvRecord f r).lowvTimer } := by
  unfold State.lowvRecord
  split <;> rfl

theorem State.supplyRecord_kept {u : State} {f : Feeder} {r : FeederRec}
    (h : u.evaluates f = false ∨ r.holds.supply = decide (u.vb < (u.feederSet f).vsupplyMin)) :
    u.supplyRecord f r = r := by
  refine if_neg fun ⟨evaluates, differs⟩ => ?_
  simp [evaluates, differs] at h

theorem FeederRec.deadTime_eq (r : FeederRec) (start : Nat) :
    r.deadTime (some start) =
      if r.state = .tripped ∧ r.role = some .leader ∧ r.holds.isEmpty = true then r.dead <|> some start else none := by
  unfold FeederRec.deadTime
  split
  · cases r.dead <;> rfl
  · rfl

theorem State.supplyRecord_changed {u : State} {f : Feeder} {r : FeederRec} (evaluates : u.evaluates f = true)
    (differs : r.holds.supply ≠ decide (u.vb < (u.feederSet f).vsupplyMin)) :
    let holds := r.holds.put .supply (decide (u.vb < (u.feederSet f).vsupplyMin))
    u.supplyRecord f r =
      { r with
        holds,
        dead :=
          if r.state = .tripped ∧ r.role = some .leader ∧ holds.isEmpty = true then
            r.dead <|> some (u.clock + (u.feederSet f).tdead * 1000)
          else none } := by
  intro holds
  have acts : u.supplyRecord f r = _ := if_pos ⟨evaluates, differs⟩
  rw [acts, FeederRec.deadTime_eq]

/-! ### The records after a sample -/

theorem State.eq_of_otherBlocks {s t : State}
    (same : t.clock = s.clock ∧ t.pins = s.pins ∧ t.st = s.st ∧ t.pp = s.pp ∧ t.sc = s.sc ∧ t.rc = s.rc ∧
      t.im = s.im ∧ t.cl = s.cl ∧ t.pending = s.pending) :
    t = { s with li := t.li, fc := t.fc, fp := t.fp, fs := t.fs } := by
  cases s
  cases t
  obtain ⟨rfl, rfl, rfl, rfl, rfl, rfl, rfl, rfl, rfl⟩ := same
  rfl

theorem State.busbarSampled_prot (u : State) (f : Feeder) :
    u.busbarSampled.prot f = u.lowvRecord f (u.prot f) := by
  rw [← forFeeders_modProt_prot u.lowvRecord u f]
  exact State.prot_of_fp (by simp [State.busbarSampled]) f

theorem State.busbarSampled_feeder (u : State) (f : Feeder) :
    u.busbarSampled.feeder f = u.agreementRecord f (u.supplyRecord f (u.feeder f)) := by
  let lowvDone := forFeeders (fun f t => t.modProt f (u.lowvRecord f)) u
  rw [← State.feeder_of_fs (s := u) (t := lowvDone) (by simp [lowvDone]) f,
    ← forFeeders_modFeeder_feeder u.supplyRecord lowvDone f, ← forFeeders_modFeeder_feeder u.agreementRecord _ f]
  exact State.feeder_of_fs (by simp [State.busbarSampled, lowvDone]) f

theorem State.busbarSampled_fc (u : State) :
    u.busbarSampled.fc =
      { u.fc with
        wakeTimer :=
          if u.fc.standby then
            if u.rect.vwake ≤ u.vb then none else u.fc.wakeTimer <|> some (u.clock + 20000)
          else u.fc.wakeTimer } := by
  rw [State.busbarSampled, State.watchBusbar_eq]
  simp [State.rect, State.settings, State.vb, State.lane]

@[simp] theorem State.modProt_feeder (s : State) (f f' : Feeder) (h : ProtRec → ProtRec) :
    (s.modProt f h).feeder f' = s.feeder f' := rfl

@[simp] theorem State.modFeeder_prot (s : State) (f f' : Feeder) (h : FeederRec → FeederRec) :
    (s.modFeeder f h).prot f' = s.prot f' := rfl

theorem State.lineSampled_prot (u : State) (f : Feeder) :
    (u.lineSampled f).prot f = u.lowvRecord f (u.rearmRecord f (u.prot f)) := by
  simp [State.lineSampled]

theorem State.lineSampled_feeder (u : State) (f : Feeder) :
    (u.lineSampled f).feeder f = u.agreementRecord f (u.liveRecord f (u.feeder f)) := by
  simp [State.lineSampled]

theorem State.lineSampled_others (u : State) (f : Feeder) : u.otherFeedersKept (u.lineSampled f) f := fun f' ne => by
  simp [State.lineSampled, ne]

/-! ### The samples -/

/-- Settles O12: each step of a notice is one change of one record, and the steps read the lanes as the arrival leaves
them. -/
theorem busbarAndLineSamples : Obligations.BusbarAndLineSamples := by
  unfold Obligations.BusbarAndLineSamples
  refine ⟨fun raw s valid running fresh => ⟨_, exec_sampleArrival_busbar valid fresh, ?_⟩,
    fun f raw s valid running enabled fresh => ?_⟩
  · let u := s.takeArrival 0 raw
    obtain ⟨value, stillFresh, -⟩ := State.takeArrival_fresh valid fresh
    have lane {l : Lane} (ne : l ≠ 0) : u.lane l = s.lane l := State.takeArrival_lane_ne ne raw s
    have vb : u.vb = s.scaled 0 raw := value
    have vl (f : Feeder) : u.vl f = s.vl f := congrArg LaneRec.value (lane (lineLane_ne_busbar f))
    have lineFresh (f : Feeder) : u.laneFresh (lineLane f) = s.laneFresh (lineLane f) := by
      rw [State.laneFresh, lane (lineLane_ne_busbar f), ← State.laneFresh]
    have clock : u.clock = s.clock := rfl
    have set (f : Feeder) : u.feederSet f = s.feederSet f := rfl
    have evaluates (f : Feeder) : u.evaluates f = s.feederEnabled f := State.evaluates_of_running running f
    have prot (f : Feeder) : u.busbarSampled.prot f = u.lowvRecord f (s.prot f) := u.busbarSampled_prot f
    have feeder (f : Feeder) : u.busbarSampled.feeder f = u.agreementRecord f (u.supplyRecord f (s.feeder f)) :=
      u.busbarSampled_feeder f
    refine ⟨fun f enabled => ⟨fun line closed armed => ?_, fun passes => ?_, fun kept => ?_, fun changed => ?_⟩,
      fun f disabled => ⟨?_, ?_⟩, ?_, ?_⟩
    · rw [prot, State.lowvRecord_acts (set f) clock rfl (by rw [evaluates, enabled]) closed armed stillFresh
        (by rw [lineFresh, line]), vl, vb]
    · rw [prot, State.lowvRecord_passes (by rw [lineFresh]; tauto)]
    · rw [feeder, State.supplyRecord_kept (.inr (by rw [vb, set]; exact kept)), State.agreementRecord_test (set f) rfl,
        vl, vb]
    · have supply : u.supplyRecord f (s.feeder f) = _ :=
        State.supplyRecord_changed (by rw [evaluates, enabled]) (by rw [vb, set]; exact changed)
      rw [feeder, State.agreementRecord_test (set f) (by rw [supply]), supply, vl, vb, clock, set]
    · rw [feeder, State.supplyRecord_kept (.inl (by rw [evaluates, disabled]))]
      rfl
    · rw [prot, State.lowvRecord_passes (.inl (by rw [evaluates, disabled]))]
    · rw [u.busbarSampled_fc, vb]
      rfl
    · exact State.eq_of_otherBlocks (by simp [State.busbarSampled])
  · intro v m
    let u := s.takeArrival (lineLane f) raw
    obtain ⟨value, stillFresh, -⟩ := State.takeArrival_fresh valid fresh
    have lane : u.lane 0 = s.lane 0 := State.takeArrival_lane_ne (lineLane_ne_busbar f).symm raw s
    have vb : u.vb = s.vb := congrArg LaneRec.value lane
    have vl : u.vl f = v := value
    have busbarFresh : u.laneFresh 0 = s.laneFresh 0 := by rw [State.laneFresh, lane, ← State.laneFresh]
    have clock : u.clock = s.clock := rfl
    have set : u.feederSet f = s.feederSet f := rfl
    have evaluates : s.evaluates f = true := (State.evaluates_of_running running f).trans enabled
    have prot : (u.lineSampled f).prot f = u.lowvRecord f (u.rearmRecord f (s.prot f)) := u.lineSampled_prot f
    have feeder : (u.lineSampled f).feeder f = u.agreementRecord f (u.liveRecord f (s.feeder f)) :=
      u.lineSampled_feeder f
    have rearmed : u.rearmRecord f (s.prot f) =
        { s.prot f with lowvPicked := (s.prot f).lowvPicked && decide (v ≤ m.vlow + m.vlow / 20) } := by
      rw [State.rearmRecord, vl, set]
    refine ⟨_, exec_sampleArrival_line valid evaluates fresh, ?_, fun busbar closed armed => ?_, fun passes => ?_, ?_,
      ?_, ?_, ?_⟩
    · rw [prot, State.lowvRecord_timer, rearmed]
    · rw [prot, State.lowvRecord_acts set clock (by rw [rearmed]) evaluates (by rw [rearmed]; exact closed)
        (by rw [rearmed, armed]; rfl) (by rw [busbarFresh, busbar]) stillFresh, vl, vb]
    · rw [prot, State.lowvRecord_passes (by rw [busbarFresh, rearmed]; tauto), rearmed]
    · rw [prot, State.lowvRecord_timer, rearmed]
    · have test : (u.liveRecord f (s.feeder f)).test = (s.feeder f).test := rfl
      rw [feeder, State.agreementRecord_test set test, State.liveRecord, vl, vb, clock, set]
    · exact u.lineSampled_others f
    · exact State.eq_of_otherBlocks (by simp [State.lineSampled])

end Sys2Proof.Machine
end

section
/-! PROOF. The start of a trip: what each of its steps does to the feeder, to its protection record and to its intertrip
sender (sections 4.7, 5.3 and 8.4). -/

namespace Sys2Proof.Machine

/-! ### A new feeder state and its copy (R62, R102) -/

theorem State.setCopy_copy (s : State) (f : Feeder) (st : FeederState) : ((s.setCopy f st).prot f).copy = st := by
  unfold State.setCopy
  split
  · assumption
  · simp [ProtRec.taking]

theorem State.setCopy_prot_self (s : State) (f : Feeder) (st : FeederState) :
    (s.setCopy f st).prot f = s.prot f ∨ (s.setCopy f st).prot f = (s.prot f).taking st := by
  unfold State.setCopy
  split
  · exact .inl rfl
  · exact .inr (by simp)

theorem State.setCopy_prot_ne {f f' : Feeder} (ne : f' ≠ f) (s : State) (st : FeederState) :
    (s.setCopy f st).prot f' = s.prot f' := by
  unfold State.setCopy
  split
  · rfl
  · exact s.modProt_prot_ne _ ne

theorem State.setState_fs (s : State) (f : Feeder) (st : FeederState) :
    (s.setState f st).fs = (s.modFeeder f fun r => { r with state := st }).fs := by
  simp [State.setState]

theorem State.setState_feeder_self (s : State) (f : Feeder) (st : FeederState) :
    (s.setState f st).feeder f = { s.feeder f with state := st } :=
  (State.feeder_of_fs (s.setState_fs f st) f).trans (s.modFeeder_feeder_self f _)

theorem State.setState_feeder_ne {f f' : Feeder} (ne : f' ≠ f) (s : State) (st : FeederState) :
    (s.setState f st).feeder f' = s.feeder f' :=
  (State.feeder_of_fs (s.setState_fs f st) f').trans (s.modFeeder_feeder_ne _ ne)

/-! ### The intertrip of a trip (R152) -/

/-- Only the confirmation of a sender that still sends is judged: it goes on sending (R153, R154). -/
theorem State.judgeConfirmation_sending {s : State} {f : Feeder} (sending : (s.sender f).state = .sending) :
    ∃ c t, (s.judgeConfirmation f).sender f = { s.sender f with confirmation := c, confirmTimer := t } := by
  unfold State.judgeConfirmation
  split
  · exact ⟨some .confirmed, none, by simp [SenderRec.settle, sending]⟩
  · exact ⟨_, _, rfl⟩

theorem State.judgeConfirmation_sender_ne {f f' : Feeder} (ne : f' ≠ f) (s : State) :
    (s.judgeConfirmation f).sender f' = s.sender f' := by
  unfold State.judgeConfirmation
  split
  · exact s.modSender_sender_ne _ ne
  · rfl

theorem State.startIntertrip_sender_self {s : State} {f : Feeder} (far : (s.feederSet f).farStation ≠ 0)
    (cause : Cause) :
    ((s.startIntertrip f cause).sender f).state = .sending ∧
      ((s.startIntertrip f cause).sender f).cause = some cause ∧
      ((s.startIntertrip f cause).sender f).tripTime = some s.time ∧
      ((s.startIntertrip f cause).sender f).nextIndex = 1 ∧
      ((s.startIntertrip f cause).sender f).repeatTimer = some (s.clock + 20000) := by
  let noted := s.modSender f fun r => { r with cause := some cause, tripTime := some s.time }
  have sent : (noted.sendIntertrip f 0).sender f = noted.sender f := State.sender_of_sc (by simp) f
  rw [State.startIntertrip, if_neg far]
  obtain ⟨c, t, judged⟩ := State.judgeConfirmation_sending (f := f)
    (s := (noted.sendIntertrip f 0).modSender f fun r =>
      { r with
        nextIndex := 1, repeatTimer := (noted.sendIntertrip f 0).after (20 * msec), state := .sending,
        confirmation := some .waiting, confirmTimer := (noted.sendIntertrip f 0).after (500 * msec) })
    (by simp)
  dsimp only
  rw [judged]
  simp [sent, noted, State.after, msec]

theorem State.startIntertrip_sender_ne {f f' : Feeder} (ne : f' ≠ f) (s : State) (cause : Cause) :
    (s.startIntertrip f cause).sender f' = s.sender f' := by
  let noted := s.modSender f fun r => { r with cause := some cause, tripTime := some s.time }
  have sent : (noted.sendIntertrip f 0).sender f' = noted.sender f' := State.sender_of_sc (by simp) f'
  simp only [State.startIntertrip]
  split
  · rfl
  · rw [State.judgeConfirmation_sender_ne ne, State.modSender_sender_ne _ _ ne, sent, State.modSender_sender_ne _ _ ne]

/-! ### Waking a station in standby (R58, R158) -/

theorem State.judgeLoad_senders (s : State) : s.judgeLoad.sc.senders = s.sc.senders := by
  unfold State.judgeLoad State.loseCondition State.setCondition State.startDwell
  dsimp only
  (repeat' split) <;> rfl

theorem State.wake_senders (s : State) (cause : Cause) : (s.wake cause).sc.senders = s.sc.senders := by
  unfold State.wake
  split
  · simp [State.judgeLoad_senders]
  · rfl

/-! ### A trip starts (R83, R84) -/

/-- The record of a trip that starts, and the feeder in TRIPPING. -/
def State.tripRecorded (s : State) (f : Feeder) (cause : Cause) (origin : Option Byte) : State :=
  ((s.driveTrip f cause).setState f .tripping).writeRecord f cause false origin

theorem State.tripStart_sameFeeders (s : State) (f : Feeder) (cause : Cause) (origin : Option Byte) :
    (s.tripStart f cause origin).fs = (s.tripRecorded f cause origin).fs ∧
      (s.tripStart f cause origin).fp = (s.tripRecorded f cause origin).fp := by
  simp only [State.tripStart]
  split <;> simp [State.tripRecorded]

theorem State.tripStart_feeder_self (s : State) (f : Feeder) (cause : Cause) (origin : Option Byte) :
    (s.tripStart f cause origin).feeder f =
      { s.feeder f with
        state := .tripping, op := .trip, tripCause := some cause,
        after := some ((s.feeder f).afterTrip (s.feederSet f).nmax cause), role := tripRole cause,
        topen := some (s.clock + (s.feederSet f).topen * 1000), tclose := none, reclaim := none, tripCoil := true,
        closeCoil := false } := by
  calc (s.tripStart f cause origin).feeder f
    _ = ((s.driveTrip f cause).setState f .tripping).feeder f := State.feeder_of_fs
        ((s.tripStart_sameFeeders f cause origin).1.trans (by simp [State.tripRecorded])) f
    _ = { (s.driveTrip f cause).feeder f with state := .tripping } := State.setState_feeder_self _ f _
    _ = _ := by simp [State.driveTrip, State.after, msec]

theorem State.tripStart_others (s : State) (f : Feeder) (cause : Cause) (origin : Option Byte) :
    s.otherFeedersKept (s.tripStart f cause origin) f := fun f' ne => by
  obtain ⟨fs, fp⟩ := s.tripStart_sameFeeders f cause origin
  constructor
  · calc (s.tripStart f cause origin).feeder f'
      _ = ((s.driveTrip f cause).setState f .tripping).feeder f' :=
        State.feeder_of_fs (fs.trans (by simp [State.tripRecorded])) f'
      _ = (s.driveTrip f cause).feeder f' := State.setState_feeder_ne ne _ _
      _ = s.feeder f' := s.modFeeder_feeder_ne _ ne
  · rw [State.prot_of_fp fp f', State.tripRecorded, State.writeRecord, State.modProt_prot_ne _ _ ne, State.setState,
      State.setCopy_prot_ne ne]
    rfl

theorem State.tripStart_prot_self (s : State) (f : Feeder) (cause : Cause) (origin : Option Byte) :
    ∃ q r, (q = s.prot f ∨ q = (s.prot f).taking .tripping) ∧ q.copy = .tripping ∧
      (s.tripStart f cause origin).prot f = { q with record := some r } ∧ r.cause = cause ∧ r.observed = false ∧
      r.time = s.time ∧ r.origin = origin ∧ r.vl = s.vl f ∧ r.repeats = 0 := by
  let u := (s.driveTrip f cause).setState f .tripping
  refine ⟨u.prot f, _, (State.setCopy_prot_self _ f _), State.setCopy_copy _ f _,
    (State.prot_of_fp (s.tripStart_sameFeeders f cause origin).2 f).trans (State.modProt_prot_self _ f _), rfl, rfl,
    ?_, rfl, ?_, rfl⟩
  · simp [State.time]
  · simp [State.vl, State.lane]

/-- The trip's state before its waking: the record written, FEEDER TRIP raised and the intertrip started. -/
def State.tripAnnounced (s : State) (f : Feeder) (cause : Cause) (origin : Option Byte) : State :=
  let s := (s.tripRecorded f cause origin).raiseTrip f
  if cause.intertrips then s.startIntertrip f cause else s

theorem State.tripStart_eq (s : State) (f : Feeder) (cause : Cause) (origin : Option Byte) :
    s.tripStart f cause origin = ((s.tripAnnounced f cause origin).wake .feederTrip).status := rfl

theorem State.tripStart_senders (s : State) (f : Feeder) (cause : Cause) (origin : Option Byte) :
    (s.tripStart f cause origin).sc.senders = (s.tripAnnounced f cause origin).sc.senders := by
  simp [State.tripStart_eq, State.wake_senders]

theorem State.tripAnnounced_fc (s : State) (f : Feeder) (cause : Cause) (origin : Option Byte) :
    (s.tripAnnounced f cause origin).fc = s.fc := by
  simp only [State.tripAnnounced]
  split <;> simp [State.tripRecorded]

theorem State.tripStart_woken (s : State) (f : Feeder) (cause : Cause) (origin : Option Byte) :
    (s.tripStart f cause origin).fc.standby = false ∧
      (s.fc.standby = false → (s.tripStart f cause origin).fc = s.fc) := by
  have fc := s.tripAnnounced_fc f cause origin
  have woken := (s.tripAnnounced f cause origin).wake_woken .feederTrip
  have told : (s.tripStart f cause origin).fc = ((s.tripAnnounced f cause origin).wake .feederTrip).fc := by
    simp [State.tripStart_eq]
  exact ⟨told ▸ woken.awake, fun awake => told.trans ((woken.same (fc ▸ awake)).1.trans fc)⟩

theorem State.tripStart_started (s : State) (f : Feeder) (cause : Cause) (origin : Option Byte) :
    s.TripStarted (s.tripStart f cause origin) f cause origin := by
  let u := (s.tripRecorded f cause origin).raiseTrip f
  have sc : u.sc = s.sc := by simp [u, State.tripRecorded]
  have set : u.feederSet f = s.feederSet f := by simp [u, State.tripRecorded, State.feederSet, State.settings]
  have clock : u.clock = s.clock := by simp [u, State.tripRecorded]
  have senders := s.tripStart_senders f cause origin
  have sender (f' : Feeder) : (s.tripStart f cause origin).sender f' = (s.tripAnnounced f cause origin).sender f' := by
    simp [State.sender, senders]
  obtain ⟨q, r, -, copy, prot, record⟩ := s.tripStart_prot_self f cause origin
  refine ⟨s.tripStart_feeder_self f cause origin, by rw [prot]; exact copy, ⟨r, by rw [prot], record⟩,
    fun intertrips far => ?_, fun none => senders.trans ?_, s.tripStart_woken f cause origin,
    ⟨s.tripStart_others f cause origin, fun f' ne => (sender f').trans ?_⟩, s.tripStart_frame f cause origin⟩
  · have started := State.startIntertrip_sender_self (s := u) (by rw [set]; exact far) cause
    rw [sender, State.tripAnnounced, if_pos intertrips]
    rwa [State.time, clock, ← State.time] at started
  · simp only [State.tripAnnounced]
    split
    · next intertrips =>
      have noFar := none.resolve_left (by simp [intertrips])
      rw [State.startIntertrip, if_pos (by exact (congrArg FeederSettings.farStation set).trans noFar)]
      exact congrArg Coordinator.senders sc
    · exact congrArg Coordinator.senders sc
  · simp only [State.tripAnnounced]
    split
    · rw [State.startIntertrip_sender_ne ne]
      exact State.sender_of_sc sc f'
    · exact State.sender_of_sc sc f'

end Sys2Proof.Machine
end

section
/-! PROOF. The decisions of IMAX and LOWV: what acting on one leaves of the protection records, and the two statements
about them (sections 4.2 and 4.4 to 4.6). -/

namespace Sys2Proof.Machine

/-! ### The other feeders -/

theorem State.otherFeedersKept_trans {s t u : State} {f : Feeder} (h : s.otherFeedersKept t f)
    (k : t.otherFeedersKept u f) : s.otherFeedersKept u f := fun f' ne =>
  ⟨(k f' ne).1.trans (h f' ne).1, (k f' ne).2.trans (h f' ne).2⟩

theorem State.otherFeedersKept_of_blocks {s t : State} (fs : t.fs = s.fs) (fp : t.fp = s.fp) (f : Feeder) :
    s.otherFeedersKept t f := fun f' _ =>
  ⟨State.feeder_of_fs fs f', State.prot_of_fp fp f'⟩

theorem State.otherFeedersKept_modProt (s : State) (f : Feeder) (h : ProtRec → ProtRec) :
    s.otherFeedersKept (s.modProt f h) f := fun _ ne => ⟨rfl, s.modProt_prot_ne h ne⟩

theorem State.otherFeedersKept_modFeeder (s : State) (f : Feeder) (h : FeederRec → FeederRec) :
    s.otherFeedersKept (s.modFeeder f h) f := fun _ ne => ⟨s.modFeeder_feeder_ne h ne, rfl⟩

/-! ### A protection record takes its value (R70, R89) -/

theorem State.dropClose_of_not_closing {s : State} {f : Feeder} (state : (s.feeder f).state ≠ .closing) :
    s.dropClose f = s := if_neg state

theorem State.setProt_of_not_closing {s : State} {f : Feeder} (state : (s.feeder f).state ≠ .closing) (r : ProtRec) :
    s.setProt f r = s.modProt f fun _ => r := by
  simp only [State.setProt]
  split
  · exact State.dropClose_of_not_closing (by simpa using state)
  · rfl

theorem State.setProt_prot_self (s : State) (f : Feeder) (r : ProtRec) : (s.setProt f r).prot f = r := by
  have fp : (s.setProt f r).fp = (s.modProt f fun _ => r).fp := by
    simp only [State.setProt]
    split <;> simp
  exact (State.prot_of_fp fp f).trans (s.modProt_prot_self f _)

theorem State.setProt_others (s : State) (f : Feeder) (r : ProtRec) : s.otherFeedersKept (s.setProt f r) f := by
  have taken := s.otherFeedersKept_modProt f fun _ => r
  simp only [State.setProt, State.dropClose]
  (repeat' split)
  · exact State.otherFeedersKept_trans taken (State.otherFeedersKept_modFeeder _ f _)
  · exact taken
  · exact taken

/-! ### Acting on a decision (R71 to R73) -/

/-- What every answer to a decision leaves of the protection records: the pick-ups of IMAX and LOWV, a LOWV timer that is
stopped, and the other feeders. -/
structure State.PicksKept (s t : State) (f : Feeder) : Prop where
  imax : (t.prot f).imaxPicked = (s.prot f).imaxPicked
  lowv : (t.prot f).lowvPicked = (s.prot f).lowvPicked
  timer : (s.prot f).lowvTimer = none → (t.prot f).lowvTimer = none
  others : s.otherFeedersKept t f

theorem State.tripStart_picksKept (s : State) (f : Feeder) (cause : Cause) (origin : Option Byte) :
    s.PicksKept (s.tripStart f cause origin) f := by
  obtain ⟨q, r, taken, -, prot, -⟩ := s.tripStart_prot_self f cause origin
  have others := s.tripStart_others f cause origin
  rcases taken with rfl | rfl
  · exact ⟨by rw [prot], by rw [prot], by simp [prot], others⟩
  · exact ⟨by rw [prot]; rfl, by simp [prot, ProtRec.taking, FeederState.rearmsLowv], by simp [prot, ProtRec.taking],
      others⟩

/-- The answer to a decision on an observed feeder: it is written down and alarmed (R73). -/
def State.wouldTrip (s : State) (f : Feeder) (cause : Cause) (detail : Int) : State :=
  (s.writeRecord f cause true none).alarm .wouldTrip (.feeder f) (some cause) detail

theorem State.wouldTrip_fp (s : State) (f : Feeder) (cause : Cause) (detail : Int) :
    (s.wouldTrip f cause detail).fp = (s.writeRecord f cause true none).fp := by
  simp [State.wouldTrip]

theorem State.wouldTrip_feeder (s : State) (f : Feeder) (cause : Cause) (detail : Int) (f' : Feeder) :
    (s.wouldTrip f cause detail).feeder f' = s.feeder f' :=
  State.feeder_of_fs (by simp [State.wouldTrip]) f'

theorem State.wouldTrip_record (s : State) (f : Feeder) (cause : Cause) (detail : Int) :
    ∃ r, ((s.wouldTrip f cause detail).prot f).record = some r ∧ r.cause = cause ∧ r.observed = true ∧
      r.time = s.time := by
  rw [State.prot_of_fp (s.wouldTrip_fp f cause detail), State.writeRecord, State.modProt_prot_self]
  exact ⟨_, rfl, rfl, rfl, rfl⟩

theorem State.wouldTrip_picksKept (s : State) (f : Feeder) (cause : Cause) (detail : Int) :
    s.PicksKept (s.wouldTrip f cause detail) f := by
  have prot := State.prot_of_fp (s.wouldTrip_fp f cause detail) f
  rw [State.writeRecord, State.modProt_prot_self] at prot
  exact ⟨by rw [prot], by rw [prot], by simp [prot],
    State.otherFeedersKept_trans (s.otherFeedersKept_modProt f _)
      (State.otherFeedersKept_of_blocks (by simp [State.wouldTrip, State.writeRecord]) (s.wouldTrip_fp f cause detail)
        f)⟩

section
variable {s : State} {f : Feeder}

theorem State.takeDecision_passes (copy : (s.prot f).copy.acting = false) (cause : Cause) (detail : Int) :
    s.takeDecision f cause detail = s := by
  simp [State.takeDecision, copy]

theorem State.takeDecision_observes (copy : (s.prot f).copy.acting = true) (observe : (s.feederSet f).observe = true)
    (cause : Cause) (detail : Int) : s.takeDecision f cause detail = s.wouldTrip f cause detail := by
  simp [State.takeDecision, copy, observe, State.wouldTrip]

theorem State.takeDecision_requests (copy : (s.prot f).copy.acting = true)
    (trips : (s.feederSet f).observe = false) (cause : Cause) (detail : Int) :
    s.takeDecision f cause detail = s.requestTrip f cause := by
  simp [State.takeDecision, copy, trips]

theorem State.takeDecision_trips (copy : (s.prot f).copy.acting = true) (state : (s.feeder f).state.acting = true)
    (trips : (s.feederSet f).observe = false) (cause : Cause) (detail : Int) :
    s.takeDecision f cause detail = s.tripStart f cause none :=
  (State.takeDecision_requests copy trips cause detail).trans (if_pos state)

end

theorem State.takeDecision_picksKept (s : State) (f : Feeder) (cause : Cause) (detail : Int) :
    s.PicksKept (s.takeDecision f cause detail) f := by
  have passed : s.PicksKept s f := ⟨rfl, rfl, id, State.otherFeedersKept_of_blocks rfl rfl f⟩
  cases copy : (s.prot f).copy.acting with
  | false => rwa [State.takeDecision_passes copy]
  | true =>
    cases observe : (s.feederSet f).observe with
    | true =>
      rw [State.takeDecision_observes copy observe]
      exact s.wouldTrip_picksKept f cause detail
    | false =>
      rw [State.takeDecision_requests copy observe, State.requestTrip]
      split
      · exact s.tripStart_picksKept f cause none
      · exact passed

/-- A decision on a feeder CLOSED or CLOSING is answered by its observe setting: a record alone, or a trip start with its
record (R72, R73). -/
structure State.DecisionAnswered (s t : State) (f : Feeder) (cause : Cause) : Prop where
  record : ∃ r, (t.prot f).record = some r ∧ r.cause = cause ∧ r.observed = (s.feederSet f).observe ∧ r.time = s.time
  trips : (s.feederSet f).observe = false → s.TripStarted t f cause none
  observes : (s.feederSet f).observe = true → t.feeder f = s.feeder f
  contact : (t.feeder f).contact = (s.feeder f).contact

theorem State.takeDecision_answered {s : State} {f : Feeder} (copy : (s.prot f).copy.acting = true)
    (state : (s.feeder f).state.acting = true) (cause : Cause) (detail : Int) :
    s.DecisionAnswered (s.takeDecision f cause detail) f cause := by
  cases observe : (s.feederSet f).observe with
  | false =>
    rw [State.takeDecision_trips copy state observe]
    have started := s.tripStart_started f cause none
    obtain ⟨r, record, ofCause, observed, time, -⟩ := started.record
    exact ⟨⟨r, record, ofCause, observed.trans observe.symm, time⟩, fun _ => started, by simp [observe],
      by rw [started.feeder]⟩
  | true =>
    rw [State.takeDecision_observes copy observe]
    have unchanged := s.wouldTrip_feeder f cause detail f
    obtain ⟨r, record, ofCause, observed, time⟩ := s.wouldTrip_record f cause detail
    exact ⟨⟨r, record, ofCause, observed.trans observe.symm, time⟩, by simp [observe], fun _ => unchanged,
      by rw [unchanged]⟩

/-! ### LOWV (R69) -/

/-- What `TripStarted` says of a trip from a state, it says from the state before a change of the tripping feeder's own
protection record. -/
theorem State.TripStarted.of_modProt {s t : State} {f : Feeder} {h : ProtRec → ProtRec} {cause : Cause}
    {origin : Option Byte} (started : (s.modProt f h).TripStarted t f cause origin) :
    s.TripStarted t f cause origin := by
  obtain ⟨feeder, copy, record, intertrip, noIntertrip, woken, ⟨others, senders⟩, frame⟩ := started
  exact ⟨feeder, copy, record, intertrip, noIntertrip, woken,
    ⟨State.otherFeedersKept_trans (s.otherFeedersKept_modProt f h) others, senders⟩, frame⟩

/-- Settles O20: the expiry sets the pick-up and takes the decision, and the copy, the state and the observe setting say
which answer that is. -/
theorem lowvDecides : Obligations.LowvDecides := by
  unfold Obligations.LowvDecides
  intro f s due
  let picked : ProtRec := { s.prot f with lowvTimer := none, lowvPicked := true }
  let u := s.setProt f picked
  have prot : u.prot f = picked := s.setProt_prot_self f picked
  have set : u.feederSet f = s.feederSet f := by simp [u, State.feederSet, State.settings]
  have kept := u.takeDecision_picksKept f .lowv (s.vl f)
  have unchanged (state : (s.feeder f).state ≠ .closing) : u = s.modProt f fun _ => picked :=
    State.setProt_of_not_closing state picked
  have answered (copy : (s.prot f).copy = .closed) (state : (s.feeder f).state = .closed) :
      u.DecisionAnswered (u.takeDecision f .lowv (s.vl f)) f .lowv :=
    State.takeDecision_answered (by rw [prot]; simp [picked, copy, FeederState.acting])
      (by rw [unchanged (by rw [state]; nofun), State.modProt_feeder, state]; rfl) _ _
  refine ⟨u.takeDecision f .lowv (s.vl f), congrArg Host.Outcome.next (if_pos due), ?_, ?_, fun copy state trips => ?_,
    fun copy state observe => ?_, fun copy passes => ?_, ?_, s.lowvDecides_frame f⟩
  · rw [kept.lowv, prot]
  · exact kept.timer (by rw [prot])
  · rw [unchanged (by rw [state]; nofun)] at answered ⊢
    exact ((answered copy state).trips trips).of_modProt
  · obtain ⟨⟨r, record, cause, observed, -⟩, -, observes, -⟩ := answered copy state
    exact ⟨(observes (set ▸ observe)).trans (by rw [unchanged (by rw [state]; nofun), State.modProt_feeder]), r, record,
      cause, observed.trans (set ▸ observe)⟩
  · have notActing : (s.feeder f).state.acting = false ∧ (s.feeder f).state ≠ .closing := by
      generalize (s.feeder f).state = state at passes
      revert passes state
      decide
    rw [State.takeDecision_passes (by rw [prot]; exact copy ▸ notActing.1), prot]
    exact ⟨rfl, by rw [unchanged notActing.2]; rfl⟩
  · exact State.otherFeedersKept_trans (s.setProt_others f picked) kept.others

/-! ### IMAX (R63) -/

theorem ProtRec.imaxStep_second {r : ProtRec} {imax current : Int} (unpicked : r.imaxPicked = false)
    (run : r.imaxRun = 1) (above : imax ≤ magnitude current) :
    r.imaxStep imax current = ({ r with imaxRun := 0, imaxPicked := true }, true) := by
  simp [ProtRec.imaxStep, unpicked, run, not_lt.mpr above]

/-- A step of DDL leaves what is not its own: the pick-up of IMAX and the copy of the feeder's state. -/
theorem ProtRec.ddlStep_keeps (r : ProtRec) (m : FeederSettings) (current di : Int) :
    (r.ddlStep m current di).1.imaxPicked = r.imaxPicked ∧ (r.ddlStep m current di).1.copy = r.copy := by
  simp only [ProtRec.ddlStep, ProtRec.ddlRearm, ProtRec.ddlRise, ProtRec.ddlStart, ProtRec.ddlEnd]
  (repeat' split) <;> exact ⟨rfl, rfl⟩

/-- A feeder's evaluation at which IMAX decides: its decision alone is taken, whatever DDL says (R71). -/
theorem State.evaluateCurrent_imax {s : State} {f : Feeder} {r : ProtRec}
    (decides : (s.prot f).imaxStep (s.feederSet f).imax (s.current f) = (r, true)) :
    s.evaluateCurrent f =
      (s.setProt f (r.ddlStep (s.feederSet f) (s.current f) s.li.di[f]).1).takeDecision f .imax
        (magnitude (s.current f)) := by
  simp [State.evaluateCurrent, decides]

/-- A trip is not complete while the contact reads closed, and no feeder but one in TRIPPING has one to complete (R85). -/
theorem State.judgeTrip_waits {s : State} {f : Feeder}
    (waits : (s.feeder f).state ≠ .tripping ∨ (s.feeder f).contact = true) : s.judgeTrip f = s := by
  rcases waits with state | contact
  · exact if_neg fun judged => state judged.1
  · exact if_neg fun judged => by simp [State.tripComplete, contact] at judged

/-! ### A sample on a feeder's current lane -/

@[simp] theorem laneUse_currentLane (f : Feeder) : laneUse (currentLane f) = .current f := by
  revert f; decide

/-- The state after a valid arrival on a feeder's current lane, with di formed and the peak window told. -/
def State.currentSampled (s : State) (f : Feeder) (raw : Word16) : State :=
  ((s.takeArrival (currentLane f) raw).formDi f true).trackPeak f true

theorem State.currentSampled_cl (s : State) (f : Feeder) (raw : Word16) : (s.currentSampled f raw).cl = s.cl := by
  simp [State.currentSampled]

theorem State.evaluates_of_cl {s t : State} (cl : t.cl = s.cl) (f : Feeder) : t.evaluates f = s.evaluates f := by
  simp [State.evaluates, State.running, State.feederEnabled, State.inConfigFault, State.handedOver, State.feederSet,
    State.settings, cl]

theorem State.currentSampled_current {f : Feeder} {raw : Word16} {s : State} (valid : raw ≠ 32768)
    (fresh : s.laneFresh (currentLane f) = true) :
    (s.currentSampled f raw).current f = s.scaled (currentLane f) raw :=
  (State.takeArrival_fresh valid fresh).1

/-- A valid sample on the FRESH current lane of an enabled feeder is evaluated, and then the feeder's trip judged. -/
theorem exec_sampleArrival_current {f : Feeder} {raw : Word16} {s : State} (valid : raw ≠ 32768)
    (evaluates : s.evaluates f = true) (fresh : s.laneFresh (currentLane f) = true) :
    exec (.sampleArrival (currentLane f) raw) s =
      .next (((s.currentSampled f raw).evaluateCurrent f).judgeTrip f) := by
  obtain ⟨-, stillFresh, -⟩ := State.takeArrival_fresh valid fresh
  let u := (s.takeArrival (currentLane f) raw).formDi f true
  have code : validCode raw = true := by simpa [validCode] using valid
  have handed : u.handHealth (currentLane f) (s.lane (currentLane f)).health 1 = u :=
    if_pos ((beq_iff_eq.mp stillFresh).trans (beq_iff_eq.mp fresh).symm)
  have freshThen : (u.trackPeak f true).laneFresh (currentLane f) = true := stillFresh
  have evaluatesThen : (u.trackPeak f true).evaluates f = true :=
    (State.evaluates_of_cl (s.currentSampled_cl f raw) f).trans evaluates
  have acts : u.protCurrent f true = (s.currentSampled f raw).evaluateCurrent f := by
    simp only [State.protCurrent, freshThen, evaluatesThen]
    rfl
  have arrival : s.arrive (currentLane f) raw = (u.protCurrent f true).judgeTrip f := by
    simp [State.arrive, State.derive, code, handed, u, State.notice, State.currentNotice]
  exact congrArg Host.Outcome.next (arrival.trans (by rw [acts]))

/-! ### The second sample at Imax -/

/-- The state in which IMAX decides: the sample taken, and the elements stepped on a feeder whose close coil is not
driven. -/
def State.imaxPicks (s : State) (f : Feeder) (raw : Word16) (r : ProtRec) : State :=
  (s.currentSampled f raw).modProt f fun _ => r

theorem State.imaxPicks_frame (s : State) (f : Feeder) (raw : Word16) (r : ProtRec) :
    (s.imaxPicks f raw r).clock = s.clock ∧ (s.imaxPicks f raw r).pins = s.pins ∧ (s.imaxPicks f raw r).st = s.st ∧
      (s.imaxPicks f raw r).fs = s.fs ∧ (s.imaxPicks f raw r).im = s.im ∧ (s.imaxPicks f raw r).cl = s.cl ∧
      (s.imaxPicks f raw r).pending = s.pending := by
  simp [State.imaxPicks, State.currentSampled]

theorem State.imaxPicks_others (s : State) (f : Feeder) (raw : Word16) (r : ProtRec) :
    s.otherFeedersKept (s.imaxPicks f raw r) f :=
  State.otherFeedersKept_trans (t := s.currentSampled f raw)
    (State.otherFeedersKept_trans (State.otherFeedersKept_of_blocks (by simp) (by simp) f)
      (State.otherFeedersKept_modProt _ f _))
    (State.otherFeedersKept_modProt _ f _)

/-- At a second sample in a row at Imax a feeder that is not closing picks IMAX up and takes the decision (R63, R71). -/
theorem State.evaluateCurrent_second {s : State} {f : Feeder} {raw : Word16} {current : Int}
    (unpicked : (s.prot f).imaxPicked = false) (run : (s.prot f).imaxRun = 1)
    (state : (s.feeder f).state ≠ .closing) (value : (s.currentSampled f raw).current f = current)
    (above : (s.feederSet f).imax ≤ magnitude current) :
    ∃ r : ProtRec, r.imaxPicked = true ∧ r.copy = (s.prot f).copy ∧
      (s.currentSampled f raw).evaluateCurrent f =
        (s.imaxPicks f raw r).takeDecision f .imax (magnitude current) := by
  let u := s.currentSampled f raw
  have prot : ∃ w, u.prot f = { s.prot f with window := w } := ⟨_, State.modProt_prot_self _ f _⟩
  obtain ⟨w, prot⟩ := prot
  have set : u.feederSet f = s.feederSet f := by simp [u, State.feederSet, State.settings, s.currentSampled_cl]
  have feeder : u.feeder f = s.feeder f := State.feeder_of_fs (by simp [u, State.currentSampled]) f
  have decides := ProtRec.imaxStep_second (r := u.prot f) (imax := (u.feederSet f).imax) (current := u.current f)
    (by rw [prot]; exact unpicked) (by rw [prot]; exact run) (by rw [set, value]; exact above)
  obtain ⟨picked, copy⟩ := ProtRec.ddlStep_keeps { u.prot f with imaxRun := 0, imaxPicked := true } (u.feederSet f)
    (u.current f) u.li.di[f]
  refine ⟨_, picked, copy.trans (by rw [prot]), (State.evaluateCurrent_imax decides).trans ?_⟩
  rw [State.setProt_of_not_closing (by rw [feeder]; exact state), value]
  rfl

/-- Settles O10: the sample is evaluated, IMAX decides, and the observe setting says whether the decision is a trip start
or a record. -/
theorem imaxTrips : Obligations.ImaxTrips := by
  unfold Obligations.ImaxTrips
  intro f raw s running enabled valid health unpicked run copy state contact above
  have fresh : s.laneFresh (currentLane f) = true := beq_iff_eq.mpr health
  obtain ⟨r, picked, sameCopy, evaluated⟩ := State.evaluateCurrent_second unpicked run (by rw [state]; nofun)
    (State.currentSampled_current valid fresh) above
  have ran := exec_sampleArrival_current valid ((State.evaluates_of_running running f).trans enabled) fresh
  rw [evaluated] at ran
  let u := s.imaxPicks f raw r
  obtain ⟨clock, pins, st, fs, im, cl, pending⟩ := s.imaxPicks_frame f raw r
  have feeder : u.feeder f = s.feeder f := State.feeder_of_fs fs f
  have set : u.feederSet f = s.feederSet f := by simp only [State.feederSet, State.settings, u, cl]
  have time : u.time = s.time := congrArg (· / 1000 % 4294967296) clock
  have prot : u.prot f = r := State.modProt_prot_self _ f _
  have acting : (u.prot f).copy.acting = true := by rw [prot, sameCopy, copy]; rfl
  let t := u.takeDecision f .imax (magnitude (s.scaled (currentLane f) raw))
  have kept : u.PicksKept t f := u.takeDecision_picksKept f .imax _
  obtain ⟨clock', pins', -, st', im', cl', pending'⟩ := u.takeDecision_frame f .imax
    (magnitude (s.scaled (currentLane f) raw))
  obtain ⟨⟨q, record, cause, observed, written⟩, trips, observes, reads⟩ : u.DecisionAnswered t f .imax :=
    State.takeDecision_answered acting (by rw [feeder, state]; rfl) _ _
  rw [set] at observed trips observes
  rw [State.judgeTrip_waits (.inr (reads.trans (by rw [feeder, contact])))] at ran
  refine ⟨t, ran, by rw [kept.imax, prot, picked], ⟨q, record, cause, observed, written.trans time⟩,
    fun trip => ?_, fun observe => (observes observe).trans feeder,
    State.otherFeedersKept_trans (s.imaxPicks_others f raw r) kept.others, clock'.trans clock, pins'.trans pins,
    st'.trans st, im'.trans im, cl'.trans cl, pending'.trans pending⟩
  have started := trips trip
  refine ⟨by rw [started.feeder], by rw [started.feeder], by rw [started.feeder], ?_, started.woken.1⟩
  rw [started.feeder, set]
  exact congrArg (fun now => some (now + _)) clock

end Sys2Proof.Machine
end

section
/-! PROOF. The records of a feeder after each shared step of the Feeder Sequencer, and the feeders that a step leaves as
they were (sections 5.1 to 5.6). -/

namespace Sys2Proof.Machine

/-! ### Reports leave the feeders -/

@[simp] theorem State.alarm_feeder (s : State) (k : AlarmKind) (o : AlarmObject) (c : Option Cause) (d : Int)
    (f : Feeder) : (s.alarm k o c d).feeder f = s.feeder f := State.feeder_of_fs (by simp) f

@[simp] theorem State.status_feeder (s : State) (f : Feeder) : s.status.feeder f = s.feeder f :=
  State.feeder_of_fs (by simp) f

@[simp] theorem State.alarm_prot (s : State) (k : AlarmKind) (o : AlarmObject) (c : Option Cause) (d : Int)
    (f : Feeder) : (s.alarm k o c d).prot f = s.prot f := State.prot_of_fp (by simp) f

@[simp] theorem State.status_prot (s : State) (f : Feeder) : s.status.prot f = s.prot f :=
  State.prot_of_fp (by simp) f

theorem State.SameButReports.others {s t : State} (same : s.SameButReports t) (f : Feeder) :
    s.otherFeedersKept t f := by
  obtain ⟨-, -, -, -, -, fp, fs, -⟩ := same.blocks
  exact State.otherFeedersKept_of_blocks fs fp f

theorem State.otherFeedersKept_refl (s : State) (f : Feeder) : s.otherFeedersKept s f :=
  State.otherFeedersKept_of_blocks rfl rfl f

theorem State.setState_others (s : State) (f : Feeder) (st : FeederState) : s.otherFeedersKept (s.setState f st) f :=
  fun _ ne => ⟨State.setState_feeder_ne ne s st, State.setCopy_prot_ne ne _ st⟩

theorem State.setState_copy (s : State) (f : Feeder) (st : FeederState) : ((s.setState f st).prot f).copy = st :=
  State.setCopy_copy _ f st

theorem State.alarm_others (s : State) (k : AlarmKind) (o : AlarmObject) (c : Option Cause) (d : Int) (f : Feeder) :
    s.otherFeedersKept (s.alarm k o c d) f := (s.alarm_same k o c d).others f

theorem State.status_others (s : State) (f : Feeder) : s.otherFeedersKept s.status f := s.status_same.others f

theorem State.feederSet_of_settings {s t : State} (settings : t.cl.settings = s.cl.settings) (f : Feeder) :
    t.feederSet f = s.feederSet f := by
  simp [State.feederSet, State.settings, settings]

theorem State.feederSet_of_cl {s t : State} (cl : t.cl = s.cl) (f : Feeder) : t.feederSet f = s.feederSet f :=
  State.feederSet_of_settings (congrArg Loader.settings cl) f

/-! ### LOCKOUT and OPEN (R98, R86) -/

/-- A feeder record in LOCKOUT (R98). -/
def FeederRec.lockedOut (r : FeederRec) : FeederRec :=
  { r with
    state := .lockout, dead := none, follow := none, live := .stopped, reclaim := none, role := none, op := .none,
    after := none }

theorem State.enterLockout_feeder (s : State) (f : Feeder) :
    (s.enterLockout f).feeder f = (s.feeder f).lockedOut := by
  simp [State.enterLockout, State.setState_feeder_self, FeederRec.lockedOut]

theorem State.enterLockout_others (s : State) (f : Feeder) : s.otherFeedersKept (s.enterLockout f) f :=
  State.otherFeedersKept_trans (s.otherFeedersKept_modFeeder f _) <|
    State.otherFeedersKept_trans (State.setState_others _ f _) <|
      State.otherFeedersKept_trans (State.alarm_others _ _ _ _ _ f) (State.status_others _ f)

theorem State.enterLockout_lockedOut (s : State) (f : Feeder) : (s.enterLockout f).LockedOut f := by
  simp [State.LockedOut, State.enterLockout_feeder, FeederRec.lockedOut]

/-- A feeder record in OPEN (R86). -/
def FeederRec.inOpen (r : FeederRec) (attempts : Nat) : FeederRec :=
  { r with
    state := .opened, dead := none, follow := none, live := .stopped, role := none, op := .none, after := none,
    tripCause := none, attempts }

theorem State.enterOpen_feeder (s : State) (f : Feeder) (n : Nat) :
    (s.enterOpen f n).feeder f = (s.feeder f).inOpen n := by
  simp only [State.enterOpen]
  split
  next opened =>
    simp only [State.modFeeder_feeder_self] at opened
    simp [FeederRec.inOpen, opened]
  next => simp [State.setState_feeder_self, FeederRec.inOpen]

theorem State.enterOpen_others (s : State) (f : Feeder) (n : Nat) : s.otherFeedersKept (s.enterOpen f n) f := by
  simp only [State.enterOpen]
  split
  · exact s.otherFeedersKept_modFeeder f _
  · exact State.otherFeedersKept_trans (s.otherFeedersKept_modFeeder f _) <|
      State.otherFeedersKept_trans (State.setState_others _ f _) (State.status_others _ f)

theorem State.enterOpen_opened (s : State) (f : Feeder) (n : Nat) : (s.enterOpen f n).Opened f n := by
  simp [State.Opened, State.enterOpen_feeder, FeederRec.inOpen]

/-! ### TRIPPED (R86, R105, R109) -/

theorem State.judgeDead_feeder (s : State) (f : Feeder) :
    (s.judgeDead f).feeder f =
      { s.feeder f with
        dead := (s.feeder f).deadTime (some (s.clock + (s.feederSet f).tdead * 1000)) } := by
  simp [State.judgeDead, State.after, msec]

theorem State.judgeDead_others (s : State) (f : Feeder) : s.otherFeedersKept (s.judgeDead f) f :=
  s.otherFeedersKept_modFeeder f _

/-- A feeder record in TRIPPED with a role (R105, R109). -/
def State.inTripped (s : State) (f : Feeder) (role : Role) (r : FeederRec) : FeederRec :=
  { r with
    state := .tripped, role := some (s.trippedRole f role), op := .none, after := none, live := .stopped,
    dead :=
      if s.trippedRole f role = .leader ∧ r.holds.isEmpty then some (s.clock + (s.feederSet f).tdead * 1000) else none,
    follow :=
      if s.trippedRole f role = .follower then some (s.clock + (s.feederSet f).tfollow * 1000) else none }

theorem State.intoTripped_feeder (s : State) (f : Feeder) (role : Role) :
    (s.intoTripped f role).feeder f = s.inTripped f role (s.feeder f) := by
  simp only [State.intoTripped, State.judgeDead_feeder, State.setState_feeder_self, State.modFeeder_feeder_self]
  rw [State.feederSet_of_cl (s := s) (t := State.setState _ _ _) (by simp)]
  simp [FeederRec.deadTime, State.inTripped, State.after, msec]

theorem State.intoTripped_others (s : State) (f : Feeder) (role : Role) :
    s.otherFeedersKept (s.intoTripped f role) f :=
  State.otherFeedersKept_trans (s.otherFeedersKept_modFeeder f _) <|
    State.otherFeedersKept_trans (State.setState_others _ f _) (State.judgeDead_others _ f)

theorem State.blockTripped_of_unblocked {s : State} {f : Feeder} (unblocked : (s.feeder f).blocked = false) :
    s.blockTripped f = s := if_neg (by simp [unblocked])

theorem State.blockTripped_of_blocked {s : State} {f : Feeder} (tripped : (s.feeder f).state = .tripped)
    (blocked : (s.feeder f).blocked = true) : s.blockTripped f = s.enterLockout f := if_pos ⟨tripped, blocked⟩

theorem State.blockTripped_others (s : State) (f : Feeder) : s.otherFeedersKept (s.blockTripped f) f := by
  unfold State.blockTripped
  split
  · exact s.enterLockout_others f
  · exact s.otherFeedersKept_refl f

/-- The state of an entry into TRIPPED before reclose-blocked is judged. -/
def State.trippedEntry (s : State) (f : Feeder) (role : Role) : State :=
  if (s.feeder f).state ≠ .tripped then (s.intoTripped f role).status else s.intoTripped f role

theorem State.enterTripped_eq (s : State) (f : Feeder) (role : Role) :
    s.enterTripped f role = (s.trippedEntry f role).blockTripped f := rfl

theorem State.trippedEntry_feeder (s : State) (f : Feeder) (role : Role) :
    (s.trippedEntry f role).feeder f = s.inTripped f role (s.feeder f) := by
  unfold State.trippedEntry
  split <;> simp [State.intoTripped_feeder]

theorem State.trippedEntry_others (s : State) (f : Feeder) (role : Role) :
    s.otherFeedersKept (s.trippedEntry f role) f := by
  unfold State.trippedEntry
  split
  · exact State.otherFeedersKept_trans (s.intoTripped_others f role) (State.status_others _ f)
  · exact s.intoTripped_others f role

theorem State.enterTripped_feeder (s : State) (f : Feeder) (role : Role) :
    (s.enterTripped f role).feeder f =
      if (s.feeder f).blocked then (s.inTripped f role (s.feeder f)).lockedOut
      else s.inTripped f role (s.feeder f) := by
  have entry := s.trippedEntry_feeder f role
  have blocked : ((s.trippedEntry f role).feeder f).blocked = (s.feeder f).blocked := by rw [entry]; rfl
  rw [State.enterTripped_eq]
  split
  next is => rw [State.blockTripped_of_blocked (by rw [entry]; rfl) (blocked.trans is), State.enterLockout_feeder, entry]
  next not => rw [State.blockTripped_of_unblocked (blocked.trans (by simpa using not)), entry]

theorem State.enterTripped_others (s : State) (f : Feeder) (role : Role) :
    s.otherFeedersKept (s.enterTripped f role) f :=
  State.otherFeedersKept_trans (s.trippedEntry_others f role) (State.blockTripped_others _ f)

/-- What `TrippedAs` says of a record, read from a state with the same settings and clock. -/
theorem State.trippedAs_of_feeder {s t u : State} {f : Feeder} {role : Role} {r : FeederRec} (cl : u.cl = s.cl)
    (clock : u.clock = s.clock) (feeder : t.feeder f = u.inTripped f role r) : s.TrippedAs t f role := by
  have set : u.feederSet f = s.feederSet f := State.feederSet_of_cl cl f
  simp [State.TrippedAs, feeder, State.inTripped, State.trippedRole, set, clock]

theorem State.TrippedAs.congr {s t u : State} {f : Feeder} {role : Role} (as : u.TrippedAs t f role) (cl : u.cl = s.cl)
    (clock : u.clock = s.clock) : s.TrippedAs t f role := by
  have set : u.feederSet f = s.feederSet f := State.feederSet_of_cl cl f
  have role_eq : u.trippedRole f role = s.trippedRole f role := by simp only [State.trippedRole, set]
  rw [State.TrippedAs, role_eq, set, clock] at as
  exact as

theorem State.lockedOut_of_feeder {t : State} {f : Feeder} {r : FeederRec} (feeder : t.feeder f = r.lockedOut) :
    t.LockedOut f := by
  simp [State.LockedOut, feeder, FeederRec.lockedOut]

theorem State.opened_of_feeder {t : State} {f : Feeder} {r : FeederRec} {n : Nat} (feeder : t.feeder f = r.inOpen n) :
    t.Opened f n := by
  simp [State.Opened, feeder, FeederRec.inOpen]

/-! ### Trips that end (R85, R86) -/

/-- The record of a feeder whose trip coil has just been released. -/
def FeederRec.tripEnded (r : FeederRec) : FeederRec := { r with tripCoil := false, topen := none, op := .none }

theorem State.enterAfter_others (s : State) (f : Feeder) : s.otherFeedersKept (s.enterAfter f) f := by
  simp only [State.enterAfter]
  split
  · exact s.enterLockout_others f
  · exact s.enterOpen_others f _
  · exact s.enterTripped_others f _

theorem State.completeTrip_others (s : State) (f : Feeder) : s.otherFeedersKept (s.completeTrip f) f :=
  State.otherFeedersKept_trans (s.otherFeedersKept_modFeeder f _) (State.enterAfter_others _ f)

/-- What the entry into an after-state keeps of the feeder's record (R86). -/
structure FeederRec.AfterKept (r q : FeederRec) : Prop where
  contact : q.contact = r.contact
  contactTimer : q.contactTimer = r.contactTimer
  holds : q.holds = r.holds
  blocked : q.blocked = r.blocked
  tripCoil : q.tripCoil = r.tripCoil
  closeCoil : q.closeCoil = r.closeCoil
  topen : q.topen = r.topen
  op : q.op = .none

theorem State.enterTripped_afterKept (s : State) (f : Feeder) (role : Role) :
    (s.feeder f).AfterKept ((s.enterTripped f role).feeder f) := by
  rw [State.enterTripped_feeder]
  split <;> exact ⟨rfl, rfl, rfl, rfl, rfl, rfl, rfl, rfl⟩

theorem State.enterLockout_afterKept (s : State) (f : Feeder) :
    (s.feeder f).AfterKept ((s.enterLockout f).feeder f) := by
  rw [State.enterLockout_feeder]
  exact ⟨rfl, rfl, rfl, rfl, rfl, rfl, rfl, rfl⟩

theorem State.enterOpen_afterKept (s : State) (f : Feeder) (n : Nat) :
    (s.feeder f).AfterKept ((s.enterOpen f n).feeder f) := by
  rw [State.enterOpen_feeder]
  exact ⟨rfl, rfl, rfl, rfl, rfl, rfl, rfl, rfl⟩

theorem State.enterAfter_afterKept (s : State) (f : Feeder) :
    (s.feeder f).AfterKept ((s.enterAfter f).feeder f) := by
  simp only [State.enterAfter]
  split
  · exact s.enterLockout_afterKept f
  · exact s.enterOpen_afterKept f _
  · exact s.enterTripped_afterKept f _

theorem State.completeTrip_afterKept (s : State) (f : Feeder) :
    (s.feeder f).tripEnded.AfterKept ((s.completeTrip f).feeder f) := by
  have kept := State.enterAfter_afterKept
    (s.modFeeder f fun r => { r with tripCoil := false, topen := none, op := .none }) f
  rwa [State.modFeeder_feeder_self] at kept

theorem State.enterTripped_trippedAs {s : State} {f : Feeder} (unblocked : (s.feeder f).blocked = false)
    (role : Role) : s.TrippedAs (s.enterTripped f role) f role :=
  State.trippedAs_of_feeder rfl rfl ((s.enterTripped_feeder f role).trans (if_neg (by simp [unblocked])))

theorem State.enterTripped_lockedOut {s : State} {f : Feeder} (blocked : (s.feeder f).blocked = true) (role : Role) :
    (s.enterTripped f role).LockedOut f :=
  State.lockedOut_of_feeder ((s.enterTripped_feeder f role).trans (if_pos blocked))

theorem State.completeTrip_completed (s : State) (f : Feeder) : s.TripCompleted (s.completeTrip f) f := by
  let u := s.modFeeder f fun r => { r with tripCoil := false, topen := none, op := .none }
  have feeder : u.feeder f = (s.feeder f).tripEnded := s.modFeeder_feeder_self f _
  have kept := s.completeTrip_afterKept f
  have after (a : Option AfterState) (is : (s.feeder f).after = a) : (u.feeder f).after = a := by rw [feeder]; exact is
  refine ⟨kept.tripCoil, kept.topen, kept.op, fun lockout => ?_, fun opened => ?_, fun role tripped is unblocked => ?_,
    fun tripped blocked => ?_⟩
  · have entry : s.completeTrip f = u.enterLockout f := by
      simp only [State.completeTrip, State.enterAfter]
      rw [after _ lockout]
    rw [entry]
    exact u.enterLockout_lockedOut f
  · have entry : s.completeTrip f = u.enterOpen f (s.feeder f).attempts := by
      simp only [State.completeTrip, State.enterAfter]
      rw [after _ opened, feeder]
      rfl
    rw [entry]
    exact u.enterOpen_opened f _
  · have entry : s.completeTrip f = u.enterTripped f role := by
      simp only [State.completeTrip, State.enterAfter]
      rw [after _ tripped, feeder]
      exact congrArg (u.enterTripped f) (by simp [FeederRec.tripEnded, is])
    rw [entry]
    refine State.trippedAs_of_feeder (u := u) (by simp [u]) (by simp [u]) ((u.enterTripped_feeder f role).trans (if_neg ?_))
    simp [feeder, FeederRec.tripEnded, unblocked]
  · have entry : s.completeTrip f = u.enterTripped f (((s.feeder f).role).getD .leader) := by
      simp only [State.completeTrip, State.enterAfter]
      rw [after _ tripped, feeder]
      rfl
    rw [entry]
    exact State.enterTripped_lockedOut (by rw [feeder]; exact blocked) _

end Sys2Proof.Machine
end

section
/-! PROOF. The record of a feeder after a close, a test and a contact edge, and the feeders that those leave as they were
(sections 5.4, 5.5 and 6.5). -/

namespace Sys2Proof.Machine

/-! ### Requests of Feeder Protection -/

theorem State.requestTrip_others (s : State) (f : Feeder) (cause : Cause) :
    s.otherFeedersKept (s.requestTrip f cause) f := by
  unfold State.requestTrip
  split
  · exact s.tripStart_others f cause none
  · exact s.otherFeedersKept_refl f

theorem State.laneDecision_others (s : State) (f : Feeder) : s.otherFeedersKept (s.laneDecision f) f := by
  unfold State.laneDecision
  split
  · exact s.requestTrip_others f .lane
  · exact s.otherFeedersKept_refl f

theorem State.laneDecision_of_fresh {s : State} {f : Feeder} (fresh : s.laneFresh (currentLane f) = true) :
    s.laneDecision f = s := if_neg (by simp [fresh])

theorem State.laneDecision_of_copy {s : State} {f : Feeder} (copy : (s.prot f).copy.acting = false) :
    s.laneDecision f = s := if_neg (by simp [copy])

theorem State.judgeTrip_others (s : State) (f : Feeder) : s.otherFeedersKept (s.judgeTrip f) f := by
  unfold State.judgeTrip
  split
  · exact s.completeTrip_others f
  · exact s.otherFeedersKept_refl f

/-! ### Breaker failure (R87) -/

/-- The state of a breaker failure with its record and its causes, before anything is sent. -/
def State.failureNoted (s : State) (f : Feeder) : State :=
  (((s.modFeeder f fun r => { r with topen := none, after := none, role := none }).setState f .failed).writeRecord f .bf
    false none).putCauses .breakerFailure true

theorem State.failBreaker_eq (s : State) (f : Feeder) :
    ∃ detail, s.failBreaker f =
      (((s.failureNoted f).startIntertrip f .bf).alarm .breakerFailure (.feeder f) (s.feeder f).tripCause
        detail).status := ⟨_, rfl⟩

/-- A breaker failure hands on its intertrip, its alarm and its STATUS, which touch none of these blocks. -/
theorem State.failBreaker_blocks (s : State) (f : Feeder) :
    (s.failBreaker f).fs = (s.failureNoted f).fs ∧ (s.failBreaker f).fp = (s.failureNoted f).fp ∧
      (s.failBreaker f).fc = (s.failureNoted f).fc ∧
      (s.failBreaker f).sc = ((s.failureNoted f).startIntertrip f .bf).sc := by
  obtain ⟨detail, eq⟩ := s.failBreaker_eq f
  rw [eq]
  simp

theorem State.failureNoted_fs (s : State) (f : Feeder) :
    (s.failureNoted f).fs =
      ((s.modFeeder f fun r => { r with topen := none, after := none, role := none }).setState f .failed).fs := by
  simp [State.failureNoted]

theorem State.failureNoted_fp (s : State) (f : Feeder) :
    (s.failureNoted f).fp =
      (((s.modFeeder f fun r => { r with topen := none, after := none, role := none }).setState f .failed).writeRecord f
        .bf false none).fp := by
  simp [State.failureNoted]

theorem State.failBreaker_feeder (s : State) (f : Feeder) :
    (s.failBreaker f).feeder f =
      { s.feeder f with state := .failed, topen := none, after := none, role := none } := by
  rw [State.feeder_of_fs ((s.failBreaker_blocks f).1.trans (s.failureNoted_fs f)), State.setState_feeder_self,
    State.modFeeder_feeder_self]

theorem State.writeRecord_prot (s : State) (f : Feeder) (cause : Cause) (observed : Bool) (origin : Option Byte) :
    ∃ r, (s.writeRecord f cause observed origin).prot f = { s.prot f with record := some r } ∧ r.cause = cause ∧
      r.observed = observed ∧ r.time = s.time :=
  ⟨_, s.modProt_prot_self f _, rfl, rfl, rfl⟩

theorem State.writeRecord_others (s : State) (f : Feeder) (cause : Cause) (observed : Bool) (origin : Option Byte) :
    s.otherFeedersKept (s.writeRecord f cause observed origin) f := s.otherFeedersKept_modProt f _

theorem State.failBreaker_prot (s : State) (f : Feeder) :
    ((s.failBreaker f).prot f).copy = .failed ∧
      ∃ r, ((s.failBreaker f).prot f).record = some r ∧ r.cause = .bf ∧ r.observed = false ∧ r.time = s.time := by
  let u := (s.modFeeder f fun r => { r with topen := none, after := none, role := none }).setState f .failed
  obtain ⟨r, prot, cause, observed, time⟩ := u.writeRecord_prot f .bf false none
  rw [State.prot_of_fp ((s.failBreaker_blocks f).2.1.trans (s.failureNoted_fp f)), prot]
  exact ⟨State.setState_copy _ f _, r, rfl, cause, observed, time.trans (by simp [State.time, u])⟩

theorem State.failBreaker_others (s : State) (f : Feeder) : s.otherFeedersKept (s.failBreaker f) f := by
  let u := (s.modFeeder f fun r => { r with topen := none, after := none, role := none }).setState f .failed
  obtain ⟨fs, fp, -, -⟩ := s.failBreaker_blocks f
  refine State.otherFeedersKept_trans (t := u.writeRecord f .bf false none) ?_ (State.otherFeedersKept_of_blocks
    (fs.trans (by simp [State.failureNoted])) (fp.trans (s.failureNoted_fp f)) f)
  exact State.otherFeedersKept_trans (s.otherFeedersKept_modFeeder f _)
    (State.otherFeedersKept_trans (State.setState_others _ f _) (State.writeRecord_others u f _ _ _))

/-! ### Closes (R89 to R92) -/

/-- The record of a feeder whose close has ended. -/
def FeederRec.closeEnded (r : FeederRec) : FeederRec := { r with closeCoil := false, tclose := none, op := .none }

/-- The state of a failed close with its alarm raised. -/
def State.closeFailed (s : State) (f : Feeder) (detail : Int) : State :=
  (s.modFeeder f FeederRec.closeEnded).alarm .closeFail (.feeder f) none detail

theorem State.closeFailed_feeder (s : State) (f : Feeder) (detail : Int) :
    (s.closeFailed f detail).feeder f = (s.feeder f).closeEnded := by
  simp [State.closeFailed]

@[simp] theorem State.closeFailed_frame (s : State) (f : Feeder) (detail : Int) :
    s.onlyFsPpRc (s.closeFailed f detail) := by
  simp [State.onlyFsPpRc, State.closeFailed]

theorem State.closeFailed_others (s : State) (f : Feeder) (detail : Int) :
    s.otherFeedersKept (s.closeFailed f detail) f :=
  State.otherFeedersKept_trans (s.otherFeedersKept_modFeeder f _) (State.alarm_others _ _ _ _ _ f)

theorem State.failClose_eq (s : State) (f : Feeder) (detail : Int) :
    s.failClose f detail =
      let u := s.closeFailed f detail
      if (s.feeder f).role = some .manual then u.enterOpen f (s.feeder f).attempts
      else if (s.feederSet f).nmax ≤ (s.feeder f).attempts then u.enterLockout f
      else u.enterTripped f .leader := by
  have feeder := s.closeFailed_feeder f detail
  have set : (s.closeFailed f detail).feederSet f = s.feederSet f := State.feederSet_of_cl (by simp) f
  have role : ((s.closeFailed f detail).feeder f).role = (s.feeder f).role := by rw [feeder]; rfl
  have attempts : ((s.closeFailed f detail).feeder f).attempts = (s.feeder f).attempts := by rw [feeder]; rfl
  rw [← role, ← attempts, ← set]
  simp only [State.failClose]
  rw [show (s.modFeeder f fun r => { r with closeCoil := false, tclose := none, op := .none }).alarm .closeFail
    (.feeder f) none detail = s.closeFailed f detail from rfl]
  split
  next manual => rw [if_pos manual]
  next other => rw [if_neg other]

theorem State.failClose_others (s : State) (f : Feeder) (detail : Int) :
    s.otherFeedersKept (s.failClose f detail) f := by
  rw [State.failClose_eq]
  dsimp only
  have failed := s.closeFailed_others f detail
  (repeat' split)
  · exact State.otherFeedersKept_trans failed (State.enterOpen_others _ f _)
  · exact State.otherFeedersKept_trans failed (State.enterLockout_others _ f)
  · exact State.otherFeedersKept_trans failed (State.enterTripped_others _ f _)

theorem State.failClose_afterKept (s : State) (f : Feeder) (detail : Int) :
    (s.feeder f).closeEnded.AfterKept ((s.failClose f detail).feeder f) := by
  rw [State.failClose_eq, ← s.closeFailed_feeder f detail]
  dsimp only
  (repeat' split)
  · exact State.enterOpen_afterKept _ f _
  · exact State.enterLockout_afterKept _ f
  · exact State.enterTripped_afterKept _ f _

/-- The record of a feeder whose close coil has just been driven (R89), with Tclose running until then. -/
def FeederRec.closeDriven (r : FeederRec) (until_ : Nat) : FeederRec :=
  { r with
    state := .closing, contactor := false, closeCoil := true, op := .close, dead := none, follow := none,
    live := .stopped, tclose := some until_ }

/-- The state of a close that begins, before the LANE decision. -/
def State.closeBegun (s : State) (f : Feeder) : State :=
  ((s.modFeeder f fun r =>
    { r with
      contactor := false, closeCoil := true, op := .close, dead := none, follow := none, live := .stopped,
      tclose := s.after ((s.feederSet f).tclose * msec) }).setState f .closing).status

theorem State.driveClose_eq (s : State) (f : Feeder) : s.driveClose f = (s.closeBegun f).laneDecision f := rfl

theorem State.closeBegun_feeder (s : State) (f : Feeder) :
    (s.closeBegun f).feeder f = (s.feeder f).closeDriven (s.clock + (s.feederSet f).tclose * 1000) := by
  simp [State.closeBegun, State.setState_feeder_self, FeederRec.closeDriven, State.after, msec]

theorem State.closeBegun_others (s : State) (f : Feeder) : s.otherFeedersKept (s.closeBegun f) f :=
  State.otherFeedersKept_trans (s.otherFeedersKept_modFeeder f _) <|
    State.otherFeedersKept_trans (State.setState_others _ f _) (State.status_others _ f)

theorem State.driveClose_others (s : State) (f : Feeder) : s.otherFeedersKept (s.driveClose f) f :=
  State.otherFeedersKept_trans (s.closeBegun_others f) (State.laneDecision_others _ f)

theorem State.askClose_others (s : State) (f : Feeder) : s.otherFeedersKept (s.askClose f) f := by
  unfold State.askClose
  split
  · exact s.failClose_others f 2
  · exact s.driveClose_others f

theorem State.reclose_others (s : State) (f : Feeder) : s.otherFeedersKept (s.reclose f) f := by
  simp only [State.reclose]
  (repeat' split)
  · exact s.askClose_others f
  · exact s.enterLockout_others f
  · exact State.otherFeedersKept_trans (s.otherFeedersKept_modFeeder f _) (State.askClose_others _ f)

theorem State.dropClose_others (s : State) (f : Feeder) : s.otherFeedersKept (s.dropClose f) f := by
  unfold State.dropClose
  split
  · exact s.otherFeedersKept_modFeeder f _
  · exact s.otherFeedersKept_refl f

/-- A feeder record in CLOSED with its reclaim timer running until then (R90, R94). -/
def FeederRec.inClosed (r : FeederRec) (until_ : Nat) : FeederRec :=
  { r with
    state := .closed, closeCoil := false, tclose := none, op := .none, role := none, tripCause := none, dead := none,
    follow := none, live := .stopped, reclaim := some until_ }

theorem State.intoClosed_feeder (s : State) (f : Feeder) :
    (s.intoClosed f).feeder f = (s.feeder f).inClosed (s.clock + (s.feederSet f).treclaim * 1000) := by
  simp [State.intoClosed, State.setState_feeder_self, FeederRec.inClosed, State.after, msec]

theorem State.intoClosed_others (s : State) (f : Feeder) : s.otherFeedersKept (s.intoClosed f) f :=
  State.otherFeedersKept_trans (s.otherFeedersKept_modFeeder f _) (State.setState_others _ f _)

theorem State.confirmClose_others (s : State) (f : Feeder) : s.otherFeedersKept (s.confirmClose f) f :=
  State.otherFeedersKept_trans (s.intoClosed_others f) <|
    State.otherFeedersKept_trans (State.status_others _ f) (State.laneDecision_others _ f)

/-! ### The end of a test (R113, R122) -/

/-- TEST NOTICE END reaches the ports alone, between two changes of the feeder's record. -/
theorem State.endTest_eq (s : State) (f : Feeder) :
    ∃ u : State, s.endTest f = u.modFeeder f (fun r => { r with test := none }) ∧ u.fp = s.fp ∧
      u.fs = (s.modFeeder f fun r => { r with contactor := false, op := .none }).fs :=
  ⟨_, rfl, by simp [State.ite_blocks], by simp [State.ite_blocks]⟩

theorem State.endTest_feeder (s : State) (f : Feeder) :
    (s.endTest f).feeder f = { s.feeder f with contactor := false, op := .none, test := none } := by
  obtain ⟨u, eq, -, fs⟩ := s.endTest_eq f
  rw [eq, State.modFeeder_feeder_self, State.feeder_of_fs fs, State.modFeeder_feeder_self]

theorem State.endTest_others (s : State) (f : Feeder) : s.otherFeedersKept (s.endTest f) f := by
  obtain ⟨u, eq, fp, fs⟩ := s.endTest_eq f
  rw [eq]
  exact State.otherFeedersKept_trans (s.otherFeedersKept_modFeeder f _) <|
    State.otherFeedersKept_trans (State.otherFeedersKept_of_blocks fs (fp.trans (by simp)) f)
      (u.otherFeedersKept_modFeeder f _)

theorem State.abandonHeld_eq (s : State) (f : Feeder) :
    s.abandonHeld f =
      if (s.feeder f).role = some .manual then
        ((s.endTest f).enterOpen f (s.feeder f).attempts).alarm .closeRefused (.feeder f) (some .abandoned) 0
      else (s.endTest f).enterTripped f .leader := by
  have feeder := s.endTest_feeder f
  simp only [State.abandonHeld, feeder]
  split
  next manual => rw [if_pos manual]
  next other => rw [if_neg other]

theorem State.abandonHeld_others (s : State) (f : Feeder) : s.otherFeedersKept (s.abandonHeld f) f := by
  rw [State.abandonHeld_eq]
  split
  · exact State.otherFeedersKept_trans (s.endTest_others f) <|
      State.otherFeedersKept_trans (State.enterOpen_others _ f _) (State.alarm_others _ _ _ _ _ f)
  · exact State.otherFeedersKept_trans (s.endTest_others f) (State.enterTripped_others _ f _)

/-! ### Contact edges (R93, R94) -/

/-- The entry of a direct release into its after-state (R93). -/
def State.released (s : State) (f : Feeder) : State :=
  let u := s.modFeeder f fun r => { r with reclaim := none, tripCause := some .direct }
  if (s.feeder f).afterTrip (s.feederSet f).nmax .direct = .lockout then u.enterLockout f else u.intoTripped f .leader

theorem State.directRelease_blocks (s : State) (f : Feeder) :
    (s.directRelease f).fs = (s.released f).fs ∧
      (s.directRelease f).fp = ((s.released f).writeRecord f .direct false none).fp ∧
      (s.directRelease f).fc.standby = false := by
  simp only [State.directRelease, State.released]
  generalize s.modFeeder f _ = u
  split <;> refine ⟨by simp, by simp, ?_⟩
  · exact (State.wake_woken _ .feederTrip).awake
  · rw [(State.status_frame _).2.2.2.2.1]
    exact (State.wake_woken _ .feederTrip).awake

theorem State.released_lockout {s : State} {f : Feeder}
    (lockout : (s.feederSet f).nmax ≤ (s.feeder f).attempts ∨ (s.feeder f).blocked = true) :
    (s.released f).feeder f =
      ({ s.feeder f with reclaim := none, tripCause := some .direct } : FeederRec).lockedOut := by
  have after : (s.feeder f).afterTrip (s.feederSet f).nmax .direct = .lockout := if_pos lockout
  simp [State.released, after, State.enterLockout_feeder]

theorem State.released_tripped {s : State} {f : Feeder}
    (tripped : ¬((s.feederSet f).nmax ≤ (s.feeder f).attempts ∨ (s.feeder f).blocked = true)) :
    (s.released f).feeder f =
      s.inTripped f .leader { s.feeder f with reclaim := none, tripCause := some .direct } := by
  rw [State.released, if_neg (by simp [FeederRec.afterTrip, tripped]), State.intoTripped_feeder,
    State.modFeeder_feeder_self]
  rfl

theorem State.released_others (s : State) (f : Feeder) : s.otherFeedersKept (s.released f) f := by
  simp only [State.released]
  split
  · exact State.otherFeedersKept_trans (s.otherFeedersKept_modFeeder f _) (State.enterLockout_others _ f)
  · exact State.otherFeedersKept_trans (s.otherFeedersKept_modFeeder f _) (State.intoTripped_others _ f _)

theorem State.directRelease_others (s : State) (f : Feeder) : s.otherFeedersKept (s.directRelease f) f := by
  obtain ⟨fs, fp, -⟩ := s.directRelease_blocks f
  exact State.otherFeedersKept_trans (s.released_others f) <|
    State.otherFeedersKept_trans (State.writeRecord_others _ f .direct false none)
      (State.otherFeedersKept_of_blocks (fs.trans (by simp)) fp f)

/-- The state of a close without a command before the LANE decision. -/
def State.foundClosed (s : State) (f : Feeder) : State :=
  (((if (s.feeder f).state = .testing then s.endTest f else s).intoClosed f).alarm .uncommandedClose (.feeder f) none
    (s.feeder f).state.leftDetail).status

theorem State.uncommandedClose_eq (s : State) (f : Feeder) :
    s.uncommandedClose f =
      if (s.foundClosed f).inConfigFault then (s.foundClosed f).tripStart f .control none
      else (s.foundClosed f).laneDecision f := rfl

theorem State.foundClosed_feeder (s : State) (f : Feeder) :
    (s.foundClosed f).feeder f =
      (if (s.feeder f).state = .testing then
        { s.feeder f with contactor := false, op := .none, test := none } else s.feeder f).inClosed
        (s.clock + (s.feederSet f).treclaim * 1000) := by
  simp only [State.foundClosed, State.status_feeder, State.alarm_feeder]
  split
  next => rw [State.intoClosed_feeder, State.endTest_feeder, State.feederSet_of_cl (s := s) (by simp)]; simp
  next => rw [State.intoClosed_feeder]

@[simp] theorem State.foundClosed_frame (s : State) (f : Feeder) : s.onlyFpFsPpRc (s.foundClosed f) := by
  unfold State.onlyFpFsPpRc
  simp only [State.foundClosed]
  split <;> simp

theorem State.foundClosed_others (s : State) (f : Feeder) : s.otherFeedersKept (s.foundClosed f) f := by
  simp only [State.foundClosed]
  split
  · exact State.otherFeedersKept_trans (s.endTest_others f) <|
      State.otherFeedersKept_trans (State.intoClosed_others _ f) <|
        State.otherFeedersKept_trans (State.alarm_others _ _ _ _ _ f) (State.status_others _ f)
  · exact State.otherFeedersKept_trans (s.intoClosed_others f) <|
      State.otherFeedersKept_trans (State.alarm_others _ _ _ _ _ f) (State.status_others _ f)

theorem State.uncommandedClose_others (s : State) (f : Feeder) : s.otherFeedersKept (s.uncommandedClose f) f := by
  rw [State.uncommandedClose_eq]
  split
  · exact State.otherFeedersKept_trans (s.foundClosed_others f) (State.tripStart_others _ f _ _)
  · exact State.otherFeedersKept_trans (s.foundClosed_others f) (State.laneDecision_others _ f)

theorem State.contactEdge_others (s : State) (f : Feeder) : s.otherFeedersKept (s.contactEdge f) f := by
  have kept := s.otherFeedersKept_refl f
  simp only [State.contactEdge]
  (repeat' split)
  · exact s.confirmClose_others f
  · exact kept
  · exact kept
  · exact s.directRelease_others f
  · exact s.judgeTrip_others f
  · exact kept
  · exact s.uncommandedClose_others f
  · exact kept

theorem State.debounceContact_others (s : State) (f : Feeder) : s.otherFeedersKept (s.debounceContact f) f := by
  simp only [State.debounceContact]
  split
  · exact State.otherFeedersKept_trans (s.otherFeedersKept_modFeeder f _) (State.contactEdge_others _ f)
  · exact s.otherFeedersKept_modFeeder f _

end Sys2Proof.Machine
end

section
/-! PROOF. The steps that leave a feeder's trip coil driven and its close coil released, and the statement about the
debounced edges of a contact (sections 5.2 to 5.5). -/

namespace Sys2Proof.Machine

/-! ### Steps that neither take a trip coil's drive nor drive a close coil -/

/-- The debounced level stands with its timer, a driven trip coil is still driven and a released close coil still
released. -/
structure FeederRec.Calm (r q : FeederRec) : Prop where
  contact : q.contact = r.contact
  contactTimer : q.contactTimer = r.contactTimer
  tripCoil : r.tripCoil = true → q.tripCoil = true
  closeCoil : r.closeCoil = false → q.closeCoil = false

theorem FeederRec.Calm.refl (r : FeederRec) : r.Calm r := ⟨rfl, rfl, id, id⟩

theorem FeederRec.Calm.trans {a b c : FeederRec} (h : a.Calm b) (k : b.Calm c) : a.Calm c :=
  ⟨k.contact.trans h.contact, k.contactTimer.trans h.contactTimer, k.tripCoil ∘ h.tripCoil,
    k.closeCoil ∘ h.closeCoil⟩

theorem FeederRec.AfterKept.calm {r q : FeederRec} (kept : r.AfterKept q) : r.Calm q :=
  ⟨kept.contact, kept.contactTimer, kept.tripCoil.trans, kept.closeCoil.trans⟩

/-- The feeder's record after a step, seen from its record before. -/
abbrev State.calm (s t : State) (f : Feeder) : Prop := (s.feeder f).Calm (t.feeder f)

theorem State.calm_of_feeder {s t : State} {f : Feeder} {r : FeederRec} (feeder : t.feeder f = r)
    (calm : (s.feeder f).Calm r) : s.calm t f := by
  rwa [State.calm, feeder]

theorem State.tripStart_calm (s : State) (f : Feeder) (cause : Cause) (origin : Option Byte) :
    s.calm (s.tripStart f cause origin) f :=
  State.calm_of_feeder (s.tripStart_feeder_self f cause origin) ⟨rfl, rfl, fun _ => rfl, fun _ => rfl⟩

theorem State.requestTrip_calm (s : State) (f : Feeder) (cause : Cause) : s.calm (s.requestTrip f cause) f := by
  unfold State.requestTrip
  split
  · exact s.tripStart_calm f cause none
  · exact .refl _

theorem State.laneDecision_calm (s : State) (f : Feeder) : s.calm (s.laneDecision f) f := by
  unfold State.laneDecision
  split
  · exact s.requestTrip_calm f .lane
  · exact .refl _

theorem State.enterLockout_calm (s : State) (f : Feeder) : s.calm (s.enterLockout f) f :=
  (s.enterLockout_afterKept f).calm

theorem State.enterOpen_calm (s : State) (f : Feeder) (n : Nat) : s.calm (s.enterOpen f n) f :=
  (s.enterOpen_afterKept f n).calm

theorem State.enterTripped_calm (s : State) (f : Feeder) (role : Role) : s.calm (s.enterTripped f role) f :=
  (s.enterTripped_afterKept f role).calm

theorem State.failBreaker_calm (s : State) (f : Feeder) : s.calm (s.failBreaker f) f :=
  State.calm_of_feeder (s.failBreaker_feeder f) ⟨rfl, rfl, id, id⟩

theorem State.failClose_calm (s : State) (f : Feeder) (detail : Int) : s.calm (s.failClose f detail) f :=
  .trans (b := (s.feeder f).closeEnded) ⟨rfl, rfl, id, fun _ => rfl⟩ (s.failClose_afterKept f detail).calm

theorem State.confirmClose_calm (s : State) (f : Feeder) : s.calm (s.confirmClose f) f := by
  refine .trans (b := (s.intoClosed f).feeder f) ?_ ?_
  · rw [State.intoClosed_feeder]
    exact ⟨rfl, rfl, id, fun _ => rfl⟩
  · rw [← State.status_feeder (s.intoClosed f) f]
    exact State.laneDecision_calm _ f

theorem State.directRelease_calm (s : State) (f : Feeder) : s.calm (s.directRelease f) f := by
  refine State.calm_of_feeder (State.feeder_of_fs (s.directRelease_blocks f).1 f) ?_
  by_cases lockout : (s.feederSet f).nmax ≤ (s.feeder f).attempts ∨ (s.feeder f).blocked = true
  · rw [State.released_lockout lockout]
    exact ⟨rfl, rfl, id, id⟩
  · rw [State.released_tripped lockout]
    exact ⟨rfl, rfl, id, id⟩

theorem State.uncommandedClose_calm (s : State) (f : Feeder) : s.calm (s.uncommandedClose f) f := by
  have found : s.calm (s.foundClosed f) f := State.calm_of_feeder (s.foundClosed_feeder f) <| by
    split <;> exact ⟨rfl, rfl, id, fun _ => rfl⟩
  rw [State.uncommandedClose_eq]
  split
  · exact found.trans (State.tripStart_calm _ f _ _)
  · exact found.trans (State.laneDecision_calm _ f)

/-- What a debounced edge does in each state (section 5.8): nothing, the judgement of a trip, or a step that leaves the
coils as they were. -/
theorem State.contactEdge_cases (s : State) (f : Feeder) :
    s.contactEdge f = s.judgeTrip f ∨ s.calm (s.contactEdge f) f := by
  have kept : s.calm s f := .refl _
  simp only [State.contactEdge]
  split
  case h_1 =>
    split
    · exact .inr (s.confirmClose_calm f)
    · exact .inr kept
  case h_2 =>
    split
    · exact .inr kept
    · exact .inr (s.directRelease_calm f)
  case h_3 => exact .inl rfl
  case h_4 => exact .inr kept
  case h_5 =>
    split
    · exact .inr (s.uncommandedClose_calm f)
    · exact .inr kept

/-! ### The judgement of a trip (R85) -/

theorem State.judgeTrip_completes {s : State} {f : Feeder} (state : (s.feeder f).state = .tripping)
    (complete : s.tripComplete f = true) : s.judgeTrip f = s.completeTrip f := if_pos ⟨state, complete⟩

theorem State.judgeTrip_passes {s : State} {f : Feeder} (incomplete : s.tripComplete f = false) :
    s.judgeTrip f = s := if_neg (by simp [incomplete])

theorem State.judgeTrip_level (s : State) (f : Feeder) :
    ((s.judgeTrip f).feeder f).contact = (s.feeder f).contact ∧
      ((s.judgeTrip f).feeder f).contactTimer = (s.feeder f).contactTimer := by
  unfold State.judgeTrip
  split
  · exact ⟨(s.completeTrip_afterKept f).contact, (s.completeTrip_afterKept f).contactTimer⟩
  · exact ⟨rfl, rfl⟩

theorem State.contactEdge_level (s : State) (f : Feeder) :
    ((s.contactEdge f).feeder f).contact = (s.feeder f).contact ∧
      ((s.contactEdge f).feeder f).contactTimer = (s.feeder f).contactTimer := by
  obtain judged | calm := s.contactEdge_cases f
  · rw [judged]
    exact s.judgeTrip_level f
  · exact ⟨calm.contact, calm.contactTimer⟩

/-! ### Debounced edges (R81) -/

/-- The state in which the raw level of a contact has been taken (R81). -/
def State.levelTaken (s : State) (f : Feeder) : State :=
  s.modFeeder f fun r => { r with contactTimer := none, contact := s.pins.contacts[f] }

@[simp] theorem State.levelTaken_feeder (s : State) (f : Feeder) :
    (s.levelTaken f).feeder f = { s.feeder f with contactTimer := none, contact := s.pins.contacts[f] } :=
  s.modFeeder_feeder_self f _

@[simp] theorem State.levelTaken_frame (s : State) (f : Feeder) : s.onlyFs (s.levelTaken f) := by
  unfold State.onlyFs
  simp [State.levelTaken]

theorem State.feederEnabled_of_cl {s t : State} (cl : t.cl = s.cl) (f : Feeder) :
    t.feederEnabled f = s.feederEnabled f := by
  simp [State.feederEnabled, State.inConfigFault, State.handedOver, State.feederSet, State.settings, cl]

theorem State.debounceContact_edge {s : State} {f : Feeder} (edge : s.pins.contacts[f] ≠ (s.feeder f).contact)
    (enabled : s.feederEnabled f = true) : s.debounceContact f = (s.levelTaken f).contactEdge f :=
  if_pos ⟨edge, (State.feederEnabled_of_cl (by simp) f).trans enabled⟩

theorem State.debounceContact_none {s : State} {f : Feeder}
    (none_ : s.pins.contacts[f] = (s.feeder f).contact ∨ s.feederEnabled f = false) :
    s.debounceContact f = s.levelTaken f := by
  refine if_neg fun ⟨edge, enabled⟩ => none_.elim edge fun disabled => ?_
  have same := State.feederEnabled_of_cl (s := s)
    (t := s.modFeeder f fun r => { r with contactTimer := none, contact := s.pins.contacts[f] }) (by simp) f
  rw [same, disabled] at enabled
  exact Bool.false_ne_true enabled

theorem State.debounceContact_level (s : State) (f : Feeder) :
    ((s.debounceContact f).feeder f).contact = s.pins.contacts[f] ∧
      ((s.debounceContact f).feeder f).contactTimer = none := by
  by_cases none_ : s.pins.contacts[f] = (s.feeder f).contact ∨ s.feederEnabled f = false
  · rw [State.debounceContact_none none_, State.levelTaken_feeder]
    exact ⟨rfl, rfl⟩
  · obtain ⟨edge, enabled⟩ := not_or.mp none_
    rw [State.debounceContact_edge edge (by simpa using enabled)]
    obtain ⟨contact, timer⟩ := (s.levelTaken f).contactEdge_level f
    exact ⟨contact.trans (by simp), timer.trans (by simp)⟩

/-- A contact that closes in CLOSING with the feeder's current lane FRESH confirms the close (R90). -/
theorem State.contactEdge_confirms {s : State} {f : Feeder} (closed : (s.feeder f).contact = true)
    (fresh : s.laneFresh (currentLane f) = true) (state : (s.feeder f).state = .closing) :
    s.contactEdge f = (s.intoClosed f).status := by
  have edge : s.contactEdge f = s.confirmClose f := by simp [State.contactEdge, state, closed]
  rw [edge, State.confirmClose]
  exact State.laneDecision_of_fresh ((State.laneFresh_of_li (by simp) _).trans fresh)

/-- A contact that closes with no command in a running station, with the feeder's current lane FRESH, trips nothing
(R94). -/
theorem State.contactEdge_finds {s : State} {f : Feeder} (closed : (s.feeder f).contact = true)
    (running : s.cl.mode = .running) (fresh : s.laneFresh (currentLane f) = true)
    (state : (s.feeder f).state ∈ [.opened, .tripped, .lockout, .testing]) :
    s.contactEdge f = s.foundClosed f := by
  have edge : s.contactEdge f = s.uncommandedClose f := by
    simp only [List.mem_cons, List.not_mem_nil, or_false] at state
    obtain state | state | state | state := state <;> simp [State.contactEdge, state, closed]
  rw [edge, State.uncommandedClose_eq, if_neg (by simp [State.inConfigFault, running])]
  exact State.laneDecision_of_fresh ((State.laneFresh_of_li (by simp) _).trans fresh)

/-- What every entry into CLOSED leaves of a feeder's record (R90, R94). -/
structure State.ClosedAt (s t : State) (f : Feeder) : Prop where
  state : (t.feeder f).state = .closed
  closeCoil : (t.feeder f).closeCoil = false
  op : (t.feeder f).op = .none
  role : (t.feeder f).role = none
  tripCause : (t.feeder f).tripCause = none
  tclose : (t.feeder f).tclose = none
  reclaim : (t.feeder f).reclaim = some (s.clock + (s.feederSet f).treclaim * 1000)
  test : (s.feeder f).state = .testing → (t.feeder f).contactor = false ∧ (t.feeder f).test = none
  frame : s.FeederFrame t f

theorem State.contactEdge_closedAt {s : State} {f : Feeder} (closed : (s.feeder f).contact = true)
    (running : s.cl.mode = .running) (fresh : s.laneFresh (currentLane f) = true)
    (state : (s.feeder f).state ∈ [.closing, .opened, .tripped, .lockout, .testing]) :
    s.ClosedAt (s.contactEdge f) f := by
  obtain closing | other := List.mem_cons.mp state
  · rw [State.contactEdge_confirms closed fresh closing]
    have feeder : (s.intoClosed f).status.feeder f = _ := (State.status_feeder _ f).trans (s.intoClosed_feeder f)
    exact ⟨by rw [feeder]; rfl, by rw [feeder]; rfl, by rw [feeder]; rfl, by rw [feeder]; rfl, by rw [feeder]; rfl,
      by rw [feeder]; rfl, by rw [feeder]; rfl, by simp [closing],
      State.otherFeedersKept_trans (s.intoClosed_others f) (State.status_others _ f), by simp [State.onlyFpFsPpRc]⟩
  · rw [State.contactEdge_finds closed running fresh other]
    have feeder := s.foundClosed_feeder f
    exact ⟨by rw [feeder]; rfl, by rw [feeder]; rfl, by rw [feeder]; rfl, by rw [feeder]; rfl, by rw [feeder]; rfl,
      by rw [feeder]; rfl, by rw [feeder]; rfl, fun testing => by rw [feeder, if_pos testing]; exact ⟨rfl, rfl⟩,
      s.foundClosed_others f, s.foundClosed_frame f⟩

/-- What a direct release leaves (R93). -/
structure State.ReleasedAt (s t : State) (f : Feeder) : Prop where
  record : ∃ r, (t.prot f).record = some r ∧ r.cause = .direct ∧ r.observed = false ∧ r.time = s.time
  tripCause : (t.feeder f).tripCause = some .direct
  tripCoil : (t.feeder f).tripCoil = (s.feeder f).tripCoil
  awake : t.fc.standby = false
  tripped : (s.feeder f).blocked = false → (s.feeder f).attempts < (s.feederSet f).nmax → s.TrippedAs t f .leader
  lockout : (s.feeder f).blocked = true ∨ (s.feederSet f).nmax ≤ (s.feeder f).attempts → t.LockedOut f

theorem State.directRelease_releasedAt (s : State) (f : Feeder) : s.ReleasedAt (s.directRelease f) f := by
  obtain ⟨fs, fp, awake⟩ := s.directRelease_blocks f
  obtain ⟨r, prot, cause, observed, time⟩ := (s.released f).writeRecord_prot f .direct false none
  have clock : (s.released f).clock = s.clock := by
    simp only [State.released]
    split <;> simp
  have record : ∃ r, ((s.directRelease f).prot f).record = some r ∧ r.cause = .direct ∧ r.observed = false ∧
      r.time = s.time := by
    rw [State.prot_of_fp fp, prot]
    exact ⟨r, rfl, cause, observed, time.trans (by simp [State.time, clock])⟩
  by_cases lockout : (s.feederSet f).nmax ≤ (s.feeder f).attempts ∨ (s.feeder f).blocked = true
  · have feeder := (State.feeder_of_fs fs f).trans (State.released_lockout lockout)
    refine ⟨record, by rw [feeder]; rfl, by rw [feeder]; rfl, awake, fun unblocked left => ?_,
      fun _ => State.lockedOut_of_feeder feeder⟩
    simp [unblocked, left.not_ge] at lockout
  · have feeder := (State.feeder_of_fs fs f).trans (State.released_tripped lockout)
    exact ⟨record, by rw [feeder]; rfl, by rw [feeder]; rfl, awake,
      fun _ _ => State.trippedAs_of_feeder rfl rfl feeder, fun stays => absurd stays.symm lockout⟩

/-- Settles O21: the edge is taken in the state with the new level, where each state's answer is one entry into a state
of section 5.1. -/
theorem contactDebounceTakesEdge : Obligations.ContactDebounceTakesEdge := by
  unfold Obligations.ContactDebounceTakesEdge
  intro f s due
  let u := s.levelTaken f
  have cl : u.cl = s.cl := by simp [u]
  have set : u.feederSet f = s.feederSet f := State.feederSet_of_cl cl f
  have clock : u.clock = s.clock := by simp [u]
  have feeder : u.feeder f = _ := s.levelTaken_feeder f
  obtain ⟨contact, timer⟩ := s.debounceContact_level f
  refine ⟨s.debounceContact f, congrArg Host.Outcome.next (if_pos due), contact, timer, fun none_ => ?_,
    fun closes open_ enabled running fresh state => ?_, fun opens closed enabled state => ?_,
    s.debounceContact_others f, s.debounceContact_frame f⟩
  · rw [State.debounceContact_none none_]
    exact ⟨by simp, s.levelTaken_frame f⟩
  · rw [State.debounceContact_edge (by simp [closes, open_]) enabled]
    obtain ⟨state, closeCoil, op, role, cause, tclose, reclaim, test, others, frame⟩ :=
      State.contactEdge_closedAt (s := u) (f := f) (by rw [feeder]; exact closes) (by rw [cl]; exact running)
        ((State.laneFresh_of_li (by simp [u]) _).trans fresh) (by rw [feeder]; exact state)
    refine ⟨state, closeCoil, op, role, cause, tclose, by rw [reclaim, set, clock],
      fun testing => test (by rw [feeder]; exact testing),
      State.otherFeedersKept_trans (s.otherFeedersKept_modFeeder f _) others, ?_⟩
    simpa [State.onlyFpFsPpRc, u] using frame
  · rw [State.debounceContact_edge (by simp [opens, closed]) enabled]
    have edge : u.contactEdge f = u.directRelease f := by simp [State.contactEdge, feeder, state, opens]
    obtain ⟨⟨r, record, cause, observed, time⟩, tripCause, tripCoil, awake, tripped, lockout⟩ :=
      edge ▸ u.directRelease_releasedAt f
    simp only [feeder, set] at tripCoil tripped lockout
    refine ⟨⟨r, record, cause, observed, time.trans (by simp [State.time, clock])⟩, tripCause, tripCoil, awake,
      fun unblocked left => State.TrippedAs.congr (tripped unblocked left) cl clock, lockout⟩

end Sys2Proof.Machine
end

section
/-! PROOF. The end of a trip and of a close: completion, breaker failure and a failed close (sections 5.3 and 5.4), and
the feeder timers that change one record. -/

namespace Sys2Proof.Machine

/-! ### Completion (R85, R86) -/

/-- What a completed trip shows is said of the settings, the clock and a few fields of the record before it. -/
theorem State.TripCompleted.congr {s t u : State} {f : Feeder} (h : u.TripCompleted t f) (cl : u.cl = s.cl)
    (clock : u.clock = s.clock) (after : (u.feeder f).after = (s.feeder f).after)
    (role : (u.feeder f).role = (s.feeder f).role) (blocked : (u.feeder f).blocked = (s.feeder f).blocked)
    (attempts : (u.feeder f).attempts = (s.feeder f).attempts) : s.TripCompleted t f := by
  obtain ⟨coil, topen, op, lockout, opened, tripped, held⟩ := h
  rw [after] at lockout opened tripped held
  rw [attempts] at opened
  rw [blocked] at tripped held
  rw [role] at tripped
  exact ⟨coil, topen, op, lockout, opened,
    fun r is has unblocked => State.TrippedAs.congr (tripped r is has unblocked) cl clock, held⟩

theorem State.completeTrip_feederFrame (s : State) (f : Feeder) : s.FeederFrame (s.completeTrip f) f :=
  ⟨s.completeTrip_others f, s.completeTrip_frame f⟩

theorem exec_topenExpiry {s : State} {f : Feeder} (state : (s.feeder f).state = .tripping)
    (due : Timer.due (s.feeder f).topen s.clock = true) : exec (.topenExpiry f) s = .next (s.topenEnds f) :=
  congrArg Host.Outcome.next (if_pos ⟨state, due⟩)

/-- A debounced edge of a feeder in TRIPPING judges the trip with the new level (R85). -/
theorem State.debounceContact_tripping {s : State} {f : Feeder} (state : (s.feeder f).state = .tripping)
    (enabled : s.feederEnabled f = true) (edge : s.pins.contacts[f] ≠ (s.feeder f).contact) :
    s.debounceContact f = (s.levelTaken f).judgeTrip f := by
  rw [State.debounceContact_edge edge enabled]
  simp [State.contactEdge, state]

theorem State.currentOut_of_settings {s t : State} (li : t.li = s.li) (settings : t.cl.settings = s.cl.settings)
    (f : Feeder) : t.currentOut f = s.currentOut f := by
  have current : t.current f = s.current f := by rw [State.current, State.lane_of_li li]; rfl
  rw [State.currentOut, State.currentOut, State.laneFresh_of_li li, current, State.feederSet_of_settings settings]

theorem exec_contactDebounce_tripping {s : State} {f : Feeder}
    (due : Timer.due (s.feeder f).contactTimer s.clock = true) (state : (s.feeder f).state = .tripping)
    (enabled : s.feederEnabled f = true) (edge : s.pins.contacts[f] ≠ (s.feeder f).contact) :
    ∃ t, exec (.contactDebounceExpiry f) s = .next t ∧
      (s.pins.contacts[f] = false → s.currentOut f = true → s.TripCompleted t f) ∧
      (s.pins.contacts[f] = true ∨ s.currentOut f = false →
        t.feeder f = { s.feeder f with contact := s.pins.contacts[f], contactTimer := none }) ∧
      s.FeederFrame t f := by
  let u := s.levelTaken f
  have feeder : u.feeder f = _ := s.levelTaken_feeder f
  have out : u.currentOut f = s.currentOut f := State.currentOut_of_settings (by simp [u]) (by simp [u]) f
  refine ⟨u.judgeTrip f, congrArg Host.Outcome.next ((if_pos due).trans
    (State.debounceContact_tripping state enabled edge)), fun opens gone => ?_, fun stays => ?_,
    State.otherFeedersKept_trans (s.otherFeedersKept_modFeeder f _) (u.judgeTrip_others f), ?_⟩
  · rw [State.judgeTrip_completes (by rw [feeder]; exact state)
      (by simp [State.tripComplete, feeder, opens, out, gone])]
    exact (u.completeTrip_completed f).congr (by simp [u]) (by simp [u]) (by rw [feeder]) (by rw [feeder])
      (by rw [feeder]) (by rw [feeder])
  · rw [State.judgeTrip_passes, feeder]
    obtain closed | flows := stays
    · simp [State.tripComplete, feeder, closed]
    · simp [State.tripComplete, out, flows]
  · simp [State.onlyFpFsPpRc, u]

/-! ### Samples and silence in TRIPPING -/

/-- The protection record of a feeder in TRIPPING alone changes at a notice of its current lane: no element acts (R62,
R71). -/
theorem State.protCurrent_tripping {s : State} {f : Feeder} (state : (s.feeder f).state = .tripping)
    (copy : (s.prot f).copy = .tripping) (valid : Bool) :
    (s.protCurrent f valid).feeder f = s.feeder f ∧ s.otherFeedersKept (s.protCurrent f valid) f := by
  let u := s.trackPeak f valid
  have tracked : s.otherFeedersKept u f := s.otherFeedersKept_modProt f _
  have copied : (u.prot f).copy = .tripping := by simpa [u, State.trackPeak] using copy
  have feeder : u.feeder f = s.feeder f := rfl
  have evaluated : ∃ r : ProtRec, u.evaluateCurrent f = u.modProt f fun _ => r := by
    let r1 := (u.prot f).imaxStep (u.feederSet f).imax (u.current f)
    let r2 := r1.1.ddlStep (u.feederSet f) (u.current f) u.li.di[f]
    have copy1 : r1.1.copy = .tripping := by
      simp only [r1, ProtRec.imaxStep]
      (repeat' split) <;> exact copied
    have copy2 : r2.1.copy = .tripping := (ProtRec.ddlStep_keeps _ _ _ _).2.trans copy1
    have taken : u.setProt f r2.1 = u.modProt f fun _ => r2.1 :=
      State.setProt_of_not_closing (by rw [feeder, state]; nofun) _
    have passes (cause : Cause) (detail : Int) :
        (u.setProt f r2.1).takeDecision f cause detail = u.modProt f fun _ => r2.1 := by
      rw [taken]
      exact State.takeDecision_passes (by rw [State.modProt_prot_self, copy2]; rfl) cause detail
    refine ⟨r2.1, ?_⟩
    simp only [State.evaluateCurrent]
    (repeat' split)
    · exact passes _ _
    · exact passes _ _
    · exact taken
  obtain ⟨r, evaluated⟩ := evaluated
  simp only [State.protCurrent]
  split
  · rw [evaluated]
    exact ⟨feeder, State.otherFeedersKept_trans tracked (u.otherFeedersKept_modProt f _)⟩
  · exact ⟨feeder, tracked⟩

/-- A valid sample on a FRESH current lane reaches Feeder Protection, and then the feeder's trip is judged (R8). -/
theorem exec_sampleArrival_fresh {f : Feeder} {raw : Word16} {s : State} (valid : raw ≠ 32768)
    (fresh : s.laneFresh (currentLane f) = true) :
    exec (.sampleArrival (currentLane f) raw) s =
      .next ((((s.takeArrival (currentLane f) raw).formDi f true).protCurrent f true).judgeTrip f) := by
  obtain ⟨-, stillFresh, -⟩ := State.takeArrival_fresh valid fresh
  let u := (s.takeArrival (currentLane f) raw).formDi f true
  have code : validCode raw = true := by simpa [validCode] using valid
  have handed : u.handHealth (currentLane f) (s.lane (currentLane f)).health 1 = u :=
    if_pos ((beq_iff_eq.mp stillFresh).trans (beq_iff_eq.mp fresh).symm)
  have arrival : s.arrive (currentLane f) raw = (u.protCurrent f true).judgeTrip f := by
    simp [State.arrive, State.derive, code, handed, u, State.notice, State.currentNotice]
  exact congrArg Host.Outcome.next arrival

theorem exec_sampleArrival_tripping {f : Feeder} {raw : Word16} {s : State}
    (state : (s.feeder f).state = .tripping) (copy : (s.prot f).copy = .tripping)
    (fresh : s.laneFresh (currentLane f) = true) (valid : raw ≠ 32768) :
    let v := s.scaled (currentLane f) raw
    ∃ t, exec (.sampleArrival (currentLane f) raw) s = .next t ∧
      ((s.feeder f).contact = false → max v (-v) < (s.feederSet f).ioff → s.TripCompleted t f) ∧
      ((s.feeder f).contact = true ∨ (s.feederSet f).ioff ≤ max v (-v) → t.feeder f = s.feeder f) ∧
      s.otherFeedersKept t f := by
  obtain ⟨value, stillFresh, -⟩ := State.takeArrival_fresh valid fresh
  let u := (s.takeArrival (currentLane f) raw).formDi f true
  let v := u.protCurrent f true
  have before : u.feeder f = s.feeder f := State.feeder_of_fs (by simp [u]) f
  obtain ⟨same, others⟩ := State.protCurrent_tripping (s := u) (f := f) (by rw [before]; exact state)
    (by rw [State.prot_of_fp (s := s) (by simp [u])]; exact copy) true
  have feeder : v.feeder f = s.feeder f := same.trans before
  have lane : v.lane (currentLane f) = (s.takeArrival (currentLane f) raw).lane (currentLane f) := by
    rw [State.lane_of_li (s := u) (by simp [v])]
    rfl
  have set : v.feederSet f = s.feederSet f := State.feederSet_of_cl (by simp [u, v]) f
  have vFresh : v.laneFresh (currentLane f) = true := by rw [State.laneFresh, lane]; exact stillFresh
  have current : v.current f = s.scaled (currentLane f) raw := by rw [State.current, lane]; exact value
  have complete : v.tripComplete f =
      (!(s.feeder f).contact && decide (magnitude (s.scaled (currentLane f) raw) < (s.feederSet f).ioff)) := by
    simp only [State.tripComplete, State.currentOut, feeder, vFresh, current, set, Bool.not_true, Bool.false_or]
  refine ⟨v.judgeTrip f, exec_sampleArrival_fresh valid fresh, fun opened below => ?_, fun stays => ?_,
    State.otherFeedersKept_trans (State.otherFeedersKept_of_blocks (by simp [u]) (by simp [u]) f)
      (State.otherFeedersKept_trans others (v.judgeTrip_others f))⟩
  · have below : magnitude (s.scaled (currentLane f) raw) < (s.feederSet f).ioff := below
    rw [State.judgeTrip_completes (by rw [feeder]; exact state) (by rw [complete]; simp [opened, below])]
    exact (v.completeTrip_completed f).congr (by simp [u, v]) (by simp [u, v]) (by rw [feeder]) (by rw [feeder])
      (by rw [feeder]) (by rw [feeder])
  · rw [State.judgeTrip_passes (by
      rw [complete]
      obtain closed | above := stays
      · simp [closed]
      · have above : (s.feederSet f).ioff ≤ magnitude (s.scaled (currentLane f) raw) := above
        simp [above]), feeder]

/-- A state in which a hold reason asks for nothing: no close, no test and no follower is under way. -/
def FeederState.unheld (st : FeederState) : Prop := st ≠ .closing ∧ st ≠ .testing ∧ st ≠ .tripped

/-- In such a state a hold reason changes the set and the dead time alone (R105, R122). -/
theorem State.setHold_unheld {s : State} {f : Feeder} (state : (s.feeder f).state.unheld) (m : HoldReason) (b : Bool) :
    ∃ holds dead, (s.setHold f m b).feeder f = { s.feeder f with holds, dead } := by
  obtain ⟨noClose, noTest, noFollower⟩ := state
  have arises (u : State) (is : (u.feeder f).state = (s.feeder f).state) : u.holdArises f m = u := by
    unfold State.holdArises
    split
    · exact absurd (is.symm.trans ‹(u.feeder f).state = .closing›) noClose
    · rfl
    · exact absurd (is.symm.trans ‹(u.feeder f).state = .testing›) noTest
    · rfl
  have judged (u : State) (is : (u.feeder f).state = (s.feeder f).state) : u.judgeFollower f = u :=
    if_neg fun follows => noFollower (is.symm.trans follows.1)
  have ceases (u : State) (is : (u.feeder f).state = (s.feeder f).state) : u.holdCeases f m = u := by
    cases m
    case interlock => exact judged u is
    case lane => exact judged u is
    all_goals rfl
  simp only [State.setHold]
  split
  · exact ⟨_, _, rfl⟩
  · have is : (((s.modFeeder f fun r => { r with holds := r.holds.put m b }).judgeDead f).feeder f).state =
        (s.feeder f).state := by simp [State.judgeDead_feeder]
    rw [arises _ is, ceases _ is, ite_self, State.judgeDead_feeder, State.modFeeder_feeder_self]
    exact ⟨_, _, rfl⟩

theorem State.judgeFollower_others (f : Feeder) (s : State) : s.otherFeedersKept (s.judgeFollower f) f := by
  simp only [State.judgeFollower]
  split
  · exact State.otherFeedersKept_trans (s.otherFeedersKept_modFeeder f _) (State.reclose_others _ f)
  · exact s.otherFeedersKept_refl f

theorem State.holdArises_others (s : State) (f : Feeder) (m : HoldReason) :
    s.otherFeedersKept (s.holdArises f m) f := by
  unfold State.holdArises
  split
  · exact s.dropClose_others f
  · exact s.otherFeedersKept_refl f
  · exact s.abandonHeld_others f
  · exact s.otherFeedersKept_refl f

theorem State.holdCeases_others (s : State) (f : Feeder) (m : HoldReason) :
    s.otherFeedersKept (s.holdCeases f m) f := by
  cases m
  case interlock => exact s.judgeFollower_others f
  case lane => exact s.judgeFollower_others f
  all_goals exact s.otherFeedersKept_refl f

theorem State.setHold_others (s : State) (f : Feeder) (m : HoldReason) (b : Bool) :
    s.otherFeedersKept (s.setHold f m b) f := by
  simp only [State.setHold]
  have put : s.otherFeedersKept ((s.modFeeder f fun r => { r with holds := r.holds.put m b }).judgeDead f) f :=
    State.otherFeedersKept_trans (s.otherFeedersKept_modFeeder f _) (State.judgeDead_others _ f)
  (repeat' split)
  · exact s.otherFeedersKept_refl f
  · exact State.otherFeedersKept_trans put (State.holdArises_others _ f m)
  · exact State.otherFeedersKept_trans put (State.holdCeases_others _ f m)

/-- A lane after its silence timer has run out (R5). -/
def State.silenced (s : State) (l : Lane) : State :=
  s.setLane l { s.lane l with goodRun := 0, silence := none, health := .stale }

/-- The current lane of a feeder that falls silent while FRESH: LANE STALE, and the health change (R5, R8, R9). -/
theorem State.fallSilent_current {s : State} {f : Feeder} (fresh : s.laneFresh (currentLane f) = true) :
    s.fallSilent (currentLane f) =
      ((s.silenced (currentLane f)).raiseStale (currentLane f) 2).currentHealth f := by
  have was : (s.lane (currentLane f)).health = .fresh := beq_iff_eq.mp fresh
  simp [State.fallSilent, State.silenceDerived, State.handHealth, State.healthChanged, State.silenced, was]

/-- A feeder in TRIPPING whose current lane has gone STALE: no element acts, LANE is noted, and the trip is judged without
the current (R10, R13, R85). -/
theorem State.currentHealth_tripping {s : State} {f : Feeder} (state : (s.feeder f).state = .tripping)
    (copy : (s.prot f).copy = .tripping) (stale : s.laneFresh (currentLane f) = false) :
    ∃ (u : State) (holds : HoldSet) (dead : Timer), s.currentHealth f = u.judgeTrip f ∧
      u.feeder f = { s.feeder f with holds, dead } ∧ s.otherFeedersKept u f ∧ u.li = s.li ∧ u.cl = s.cl ∧
      u.clock = s.clock := by
  let rested := s.modProt f fun r => { r with imaxRun := 0, ddlRising := false, ddlT := 0, ddlLowRun := 0 }
  have lost : s.currentLost f = rested :=
    State.laneDecision_of_copy (s := rested) (by simp [rested, copy, FeederState.acting])
  obtain ⟨holds, dead, feeder⟩ := State.setHold_unheld (s := rested) (f := f)
    (by rw [FeederState.unheld, show (rested.feeder f).state = .tripping from state]; decide) .lane (rested.laneHold f)
  refine ⟨rested.judgeLaneHold f, holds, dead, ?_, feeder,
    State.otherFeedersKept_trans (s.otherFeedersKept_modProt f _) (rested.setHold_others f _ _), ?_⟩
  · simp [State.currentHealth, stale, lost]
  · simp [rested]

theorem exec_silence_tripping {f : Feeder} {s : State} (state : (s.feeder f).state = .tripping)
    (copy : (s.prot f).copy = .tripping) (fresh : s.laneFresh (currentLane f) = true)
    (due : Timer.due (s.lane (currentLane f)).silence s.clock = true) :
    ∃ t, exec (.silenceTimerExpiry (currentLane f)) s = .next t ∧
      ((s.feeder f).contact = false → s.TripCompleted t f) ∧
      ((s.feeder f).contact = true → (t.feeder f).state = .tripping ∧ (t.feeder f).tripCoil = (s.feeder f).tripCoil) ∧
      s.otherFeedersKept t f := by
  let u := (s.silenced (currentLane f)).raiseStale (currentLane f) 2
  have fs : u.fs = s.fs := by simp [u, State.silenced]
  have fp : u.fp = s.fp := by simp [u, State.silenced]
  have before : u.feeder f = s.feeder f := State.feeder_of_fs fs f
  have stale : u.laneFresh (currentLane f) = false := by
    rw [State.laneFresh_of_li (s := s.silenced (currentLane f)) (by simp [u])]
    simp [State.laneFresh, State.silenced]
  obtain ⟨v, holds, dead, health, feeder, others, li, cl, clock⟩ :=
    State.currentHealth_tripping (s := u) (f := f) (by rw [before]; exact state)
      (by rw [State.prot_of_fp fp]; exact copy) stale
  rw [before] at feeder
  have complete : v.tripComplete f = !(s.feeder f).contact := by
    simp [State.tripComplete, State.currentOut, feeder, State.laneFresh_of_li li, stale]
  refine ⟨v.judgeTrip f, congrArg Host.Outcome.next ((if_pos due).trans
    ((State.fallSilent_current fresh).trans health)), fun opened => ?_, fun closed => ?_,
    State.otherFeedersKept_trans (State.otherFeedersKept_of_blocks fs fp f)
      (State.otherFeedersKept_trans others (v.judgeTrip_others f))⟩
  · rw [State.judgeTrip_completes (by rw [feeder]; exact state) (by rw [complete, opened]; rfl)]
    exact (v.completeTrip_completed f).congr (cl.trans (by simp [u, State.silenced]))
      (clock.trans (by simp [u, State.silenced])) (by rw [feeder]) (by rw [feeder]) (by rw [feeder]) (by rw [feeder])
  · rw [State.judgeTrip_passes (by rw [complete, closed]; rfl), feeder]
    exact ⟨state, rfl⟩

/-! ### Breaker failure (R87) -/

theorem State.failureNoted_feederSet (s : State) (f : Feeder) : (s.failureNoted f).feederSet f = s.feederSet f :=
  State.feederSet_of_cl (by simp [State.failureNoted]) f

theorem State.failBreaker_groups (s : State) (f : Feeder) :
    (∀ g, (s.group g).state ≠ .off → ((s.failBreaker f).group g).causes.breakerFailure = true) ∧
      (s.FiringOk → ∀ g, ((s.failBreaker f).group g).state.fires = false) := by
  let u := ((s.modFeeder f fun r => { r with topen := none, after := none, role := none }).setState f
    .failed).writeRecord f .bf false none
  have group (g : Group) : (s.failBreaker f).group g = (u.putCauses .breakerFailure true).group g :=
    State.group_of_fc (s.failBreaker_blocks f).2.2.1 g
  have before (g : Group) : u.group g = s.group g := State.group_of_fc (by simp [u]) g
  refine ⟨fun g on => ?_, fun ok g => ?_⟩
  · rw [group, State.putCauses_causes, before, if_neg on]
    rfl
  · rw [group]
    exact u.putCauses_quiet _ g fun fires => by
      rw [before] at fires ⊢
      exact ((ok.groups g).fires.mp fires).2

theorem State.failBreaker_sender {s : State} {f : Feeder} (far : (s.feederSet f).farStation ≠ 0) :
    ((s.failBreaker f).sender f).state = .sending ∧ ((s.failBreaker f).sender f).cause = some .bf := by
  rw [State.sender_of_sc (s.failBreaker_blocks f).2.2.2]
  obtain ⟨state, cause, -⟩ := State.startIntertrip_sender_self (s := s.failureNoted f) (f := f)
    (by rw [s.failureNoted_feederSet]; exact far) .bf
  exact ⟨state, cause⟩

/-- Settles O22: each event that judges a trip reaches `judgeTrip` or `topenEnds` in a state that differs from the one
before it in what the event itself takes. -/
theorem tripsEnd : Obligations.TripsEnd := by
  unfold Obligations.TripsEnd
  refine ⟨fun f s due state complete => ?_, fun f s due state enabled edge =>
    exec_contactDebounce_tripping due state enabled edge, fun f raw s state copy fresh =>
    ⟨exec_sampleArrival_tripping state copy fresh, exec_silence_tripping state copy fresh⟩,
    fun f s due state incomplete => ?_⟩
  · obtain ⟨coil, topen, op, lockout, opened, tripped, held⟩ := s.completeTrip_completed f
    have kept := s.completeTrip_afterKept f
    exact ⟨s.completeTrip f, (exec_topenExpiry state due).trans (congrArg _ (if_pos complete)), coil, topen, op, lockout,
      opened, tripped, held, kept.contact, kept.holds, kept.blocked, s.completeTrip_feederFrame f⟩
  · obtain ⟨copy, record⟩ := s.failBreaker_prot f
    obtain ⟨causes, quiet⟩ := s.failBreaker_groups f
    exact ⟨s.failBreaker f, (exec_topenExpiry state due).trans (congrArg _ (if_neg (by simp [incomplete]))),
      s.failBreaker_feeder f, copy, record, causes, quiet, State.failBreaker_sender, s.failBreaker_others f,
      s.failBreaker_frame f⟩

/-! ### A close that fails (R92) -/

/-- Settles O23: a failed close is one entry into OPEN, LOCKOUT or TRIPPED from the state with its coil released. -/
theorem closeFails : Obligations.CloseFails := by
  unfold Obligations.CloseFails
  intro f s due state
  let u := s.closeFailed f 1
  have feeder : u.feeder f = (s.feeder f).closeEnded := s.closeFailed_feeder f 1
  have kept := s.failClose_afterKept f 1
  have eq := s.failClose_eq f 1
  refine ⟨s.failClose f 1, congrArg Host.Outcome.next (if_pos ⟨state, due⟩), kept.closeCoil, ?_, kept.op,
    fun manual => ?_, fun other used => ?_, fun other left unblocked => ?_, fun other blocked => ?_,
    s.failClose_others f 1, s.failClose_frame f 1⟩
  · rw [eq]
    dsimp only
    (repeat' split)
    · rw [State.enterOpen_feeder, feeder]; rfl
    · rw [State.enterLockout_feeder, feeder]; rfl
    · rw [State.enterTripped_feeder, feeder]
      split <;> rfl
  · rw [eq, if_pos manual]
    exact u.enterOpen_opened f _
  · rw [eq, if_neg other, if_pos used]
    exact u.enterLockout_lockedOut f
  · rw [eq, if_neg other, if_neg left.not_ge]
    exact State.TrippedAs.congr (State.enterTripped_trippedAs (by rw [feeder]; exact unblocked) .leader) (by simp)
      (by simp)
  · rw [eq, if_neg other]
    split
    · exact u.enterLockout_lockedOut f
    · exact State.enterTripped_lockedOut (by rw [feeder]; exact blocked) .leader

/-! ### The timers of one record (R91, R112, R115, R121) -/

theorem State.setStage_test {s : State} {f : Feeder} {r : TestRec} (test : (s.feeder f).test = some r) (stage : Stage)
    (us : Nat) :
    s.setStage f stage us = s.modFeeder f fun q =>
      { q with
        test :=
          some
            { r with
              stage, timer := s.clock + us, agreement := if stage = .secondHalf then some true else r.agreement } } :=
  State.modFeeder_congr (by simp only [test])

/-- The step of one record changes no other feeder and no other block. -/
theorem State.modFeeder_alone (s : State) (f : Feeder) (h : FeederRec → FeederRec) :
    (∀ f', f' ≠ f → (s.modFeeder f h).feeder f' = s.feeder f') ∧
      s.modFeeder f h = { s with fs := (s.modFeeder f h).fs } :=
  ⟨fun _ ne => s.modFeeder_feeder_ne h ne, rfl⟩

theorem HoldSet.put_of_has (h : HoldSet) (m : HoldReason) {b : Bool} (has : h.has m = b) : h.put m b = h := by
  subst has; cases m <;> rfl

/-- With no notice held, PEER TESTING is removed, and the dead time judged where that is a change (R121, R105). -/
theorem State.setNotice_none (s : State) (f : Feeder) :
    ∃ dead : FeederRec → Timer, s.setNotice f none = s.modFeeder f fun r =>
      { r with notice := none, holds := r.holds.put .peerTesting false, dead := dead r } := by
  let u := s.modFeeder f fun r => { r with notice := none }
  have lower : u.lowerNotice f = false := by simp [State.lowerNotice, u]
  have set : s.setNotice f none = u.setHold f .peerTesting false := by
    rw [← lower]
    rfl
  rw [set, State.setHold]
  split
  next absent =>
    refine ⟨FeederRec.dead, State.modFeeder_congr ?_⟩
    rw [HoldSet.put_of_has _ _ (by simpa [u] using absent)]
  next =>
    refine ⟨fun r => ({ r with holds := r.holds.put .peerTesting false } : FeederRec).deadTime
      (s.after ((s.feederSet f).tdead * msec)), ?_⟩
    simp only [Bool.false_eq_true, if_false, State.holdCeases, u, State.judgeDead, State.modFeeder_modFeeder]
    rfl

/-- Settles O27: each of these timers is one change of its feeder's record. -/
theorem feederTimersOfOneRecord : Obligations.FeederTimersOfOneRecord := by
  unfold Obligations.FeederTimersOfOneRecord
  refine ⟨fun f s due state => ?_, fun f r s test due => ⟨fun stage => ?_, fun stage => ?_⟩, fun f s =>
    ⟨fun due state idle => ?_, fun n held due => ?_⟩⟩
  · exact ⟨_, congrArg Host.Outcome.next (if_pos ⟨state, due⟩), s.modFeeder_feeder_self f _, s.modFeeder_alone f _⟩
  · refine ⟨s.setStage f .firstHalf ((s.feederSet f).ttest / 2 * msec), ?_, ?_⟩
    · simp [exec, execContactorStageExpiry, test, stage, due, State.stageEnds]
    · rw [State.setStage_test test]
      exact ⟨by simp [msec], s.modFeeder_alone f _⟩
  · refine ⟨s.setStage f .secondHalf (((s.feederSet f).ttest - (s.feederSet f).ttest / 2) * msec), ?_, ?_⟩
    · simp [exec, execFirstHalfExpiry, test, stage, due, State.stageEnds]
    · rw [State.setStage_test test]
      exact ⟨by simp [msec], s.modFeeder_alone f _⟩
  · refine ⟨s.followEnds f, congrArg Host.Outcome.next (if_pos due), ?_⟩
    rw [State.followEnds, State.judgeDead, State.modFeeder_modFeeder]
    refine ⟨?_, s.modFeeder_alone f _⟩
    rw [State.modFeeder_feeder_self]
    simp only [FeederRec.deadTime, state, idle, true_and]
    rfl
  · refine ⟨s.setNotice f none, by simp [exec, execPeerNoticeExpiry, held, due], ?_⟩
    obtain ⟨dead, eq⟩ := s.setNotice_none f
    rw [eq]
    exact ⟨by simp, by simp, by simp, by simp, s.modFeeder_alone f _⟩

end Sys2Proof.Machine
end

section
/-! PROOF. The coils of every feeder through the steps of the model: a trip coil keeps its drive until its breaker has
opened, and a close coil is driven only where nothing forbids it (R78, R85, R89). Each step is shown to keep both, feeder
by feeder. -/

namespace Sys2Proof.Machine

/-! ### What a step keeps of the coils -/

/-- What allows a close coil to be driven (R78, R89). -/
structure State.CloseAllowed (s : State) (f : Feeder) : Prop where
  state : (s.feeder f).state = .closing
  interlock : (s.feeder f).holds.interlock = false
  door : s.doorActive = false
  picked : (s.prot f).pickedUp = false

/-- A close coil is driven only where that is allowed. -/
def State.CloseSafe (s : State) (f : Feeder) : Prop := (s.feeder f).closeCoil = true → s.CloseAllowed f

theorem State.closeSafe_of_released {s : State} {f : Feeder} (released : (s.feeder f).closeCoil = false) :
    s.CloseSafe f := fun driven => by simp [released] at driven

theorem State.CloseSafe.released {s : State} {f : Feeder} (safe : s.CloseSafe f)
    (state : (s.feeder f).state ≠ .closing) : (s.feeder f).closeCoil = false :=
  Bool.eq_false_iff.mpr fun driven => state (safe driven).state

/-- What completes a trip stands as it did, and the trip coil has lost its drive in a complete trip alone (R85). -/
structure State.TripHeld (s t : State) (f : Feeder) : Prop where
  contact : (t.feeder f).contact = (s.feeder f).contact
  out : t.currentOut f = s.currentOut f
  coil : (s.feeder f).tripCoil = true → (t.feeder f).tripCoil = true ∨ s.tripComplete f = true

/-- A step of the part, in what it does to a feeder's coils. -/
structure State.CoilStep (s t : State) (f : Feeder) : Prop where
  held : s.TripHeld t f
  close : s.CloseSafe f → t.CloseSafe f

/-- The same of every feeder. -/
def State.CoilSteps (s t : State) : Prop := ∀ f, s.CoilStep t f

theorem State.TripHeld.trans {s t u : State} {f : Feeder} (h : s.TripHeld t f) (k : t.TripHeld u f) :
    s.TripHeld u f := by
  have complete : t.tripComplete f = s.tripComplete f := by rw [State.tripComplete, h.contact, h.out]; rfl
  refine ⟨k.contact.trans h.contact, k.out.trans h.out, fun driven => ?_⟩
  obtain still | done := h.coil driven
  · exact complete ▸ k.coil still
  · exact .inr done

theorem State.CoilStep.refl (s : State) (f : Feeder) : s.CoilStep s f := ⟨⟨rfl, rfl, .inl⟩, id⟩

theorem State.CoilStep.trans {s t u : State} {f : Feeder} (h : s.CoilStep t f) (k : t.CoilStep u f) : s.CoilStep u f :=
  ⟨h.held.trans k.held, k.close ∘ h.close⟩

theorem State.CoilSteps.refl (s : State) : s.CoilSteps s := fun f => State.CoilStep.refl s f

theorem State.CoilSteps.trans {s t u : State} (h : s.CoilSteps t) (k : t.CoilSteps u) : s.CoilSteps u := fun f =>
  (h f).trans (k f)

theorem State.coilSteps_ite {s a b : State} {p : Prop} [Decidable p] (yes : p → s.CoilSteps a) (no : ¬p → s.CoilSteps b) :
    s.CoilSteps (if p then a else b) := by
  split
  · exact yes ‹p›
  · exact no ‹¬p›

theorem State.forFeeders_coilSteps {g : Feeder → State → State} (h : ∀ f s, State.CoilSteps s (g f s)) (s : State) :
    s.CoilSteps (forFeeders g s) :=
  (h 0 s).trans <| (h 1 _).trans <| (h 2 _).trans (h 3 _)

theorem State.forGroups_coilSteps {g : Group → State → State} (h : ∀ k s, State.CoilSteps s (g k s)) (s : State) :
    s.CoilSteps (forGroups g s) :=
  (h 0 s).trans (h 1 _)

/-! ### Steps that touch no feeder -/

/-- A state in which a feeder's coils and what is read of them have not changed: the records of the feeders and of Feeder
Protection, the lanes, the settings and the active inputs. -/
structure State.FeedersStand (s t : State) : Prop where
  fs : t.fs = s.fs
  fp : t.fp = s.fp
  li : t.li = s.li
  settings : t.cl.settings = s.cl.settings
  door : t.doorActive = s.doorActive

theorem State.doorActive_of_blocks {s t : State} (im : t.im = s.im) (settings : t.cl.settings = s.cl.settings) :
    t.doorActive = s.doorActive := by
  simp [State.doorActive, State.input, State.role, im, settings]

theorem State.tripHeld_of_blocks {s t : State} (fs : t.fs = s.fs) (li : t.li = s.li)
    (settings : t.cl.settings = s.cl.settings) (f : Feeder) : s.TripHeld t f := by
  have feeder := State.feeder_of_fs fs f
  exact ⟨by rw [feeder], State.currentOut_of_settings li settings f, fun driven => .inl (by rwa [feeder])⟩

theorem State.FeedersStand.coilSteps {s t : State} (h : s.FeedersStand t) : s.CoilSteps t := fun f => by
  have feeder := State.feeder_of_fs h.fs f
  refine ⟨State.tripHeld_of_blocks h.fs h.li h.settings f, fun safe driven => ?_⟩
  obtain ⟨state, interlock, door, picked⟩ := safe (by rwa [feeder] at driven)
  exact ⟨by rwa [feeder], by rwa [feeder], h.door.trans door, by rwa [State.prot_of_fp h.fp]⟩

theorem State.feedersStand_of_blocks {s t : State} (fs : t.fs = s.fs) (fp : t.fp = s.fp) (li : t.li = s.li)
    (im : t.im = s.im) (cl : t.cl = s.cl) : s.FeedersStand t :=
  ⟨fs, fp, li, congrArg Loader.settings cl, State.doorActive_of_blocks im (congrArg Loader.settings cl)⟩

theorem State.coilSteps_of_blocks {s t : State} (fs : t.fs = s.fs := by simp) (fp : t.fp = s.fp := by simp)
    (li : t.li = s.li := by simp) (im : t.im = s.im := by simp) (cl : t.cl = s.cl := by simp) : s.CoilSteps t :=
  (State.feedersStand_of_blocks fs fp li im cl).coilSteps

theorem State.SameButReports.coilSteps {s t : State} (same : s.SameButReports t) : s.CoilSteps t := by
  obtain ⟨-, -, li, -, -, fp, fs, -, im, cl, -⟩ := same.blocks
  exact State.coilSteps_of_blocks fs fp li im cl

/-! ### Steps of one feeder -/

/-- A step of one feeder: the lanes, the inputs, the settings and the other feeders stand. -/
structure State.OneFeeder (s t : State) (f : Feeder) : Prop where
  others : s.otherFeedersKept t f
  li : t.li = s.li
  im : t.im = s.im
  cl : t.cl = s.cl

theorem State.oneFeeder_of_frame {s t : State} {f : Feeder} (others : s.otherFeedersKept t f)
    (frame : s.onlyFcFpFsPpScRc t) : s.OneFeeder t f := by
  obtain ⟨-, -, li, -, im, cl, -⟩ := frame
  exact ⟨others, li, im, cl⟩

theorem State.OneFeeder.currentOut {s t : State} {f : Feeder} (h : s.OneFeeder t f) (f' : Feeder) :
    t.currentOut f' = s.currentOut f' := State.currentOut_of_settings h.li (congrArg Loader.settings h.cl) f'

theorem State.OneFeeder.doorActive {s t : State} {f : Feeder} (h : s.OneFeeder t f) : t.doorActive = s.doorActive :=
  State.doorActive_of_blocks h.im (congrArg Loader.settings h.cl)

theorem State.OneFeeder.tripHeld {s t : State} {f : Feeder} (h : s.OneFeeder t f) (calm : s.calm t f) :
    s.TripHeld t f :=
  ⟨calm.contact, h.currentOut f, fun driven => .inl (calm.tripCoil driven)⟩

theorem State.OneFeeder.tripHeld_ne {s t : State} {f f' : Feeder} (h : s.OneFeeder t f) (ne : f' ≠ f) :
    s.TripHeld t f' := by
  have feeder := (h.others f' ne).1
  exact ⟨by rw [feeder], h.currentOut f', fun driven => .inl (by rwa [feeder])⟩

theorem State.OneFeeder.coilSteps {s t : State} {f : Feeder} (h : s.OneFeeder t f) (own : s.CoilStep t f) :
    s.CoilSteps t := fun f' => by
  by_cases same : f' = f
  · exact same ▸ own
  obtain ⟨feeder, prot⟩ := h.others f' same
  refine ⟨h.tripHeld_ne same, fun safe driven => ?_⟩
  obtain ⟨state, interlock, door, picked⟩ := safe (by rwa [feeder] at driven)
  exact ⟨by rwa [feeder], by rwa [feeder], h.doorActive.trans door, by rwa [prot]⟩

/-- A calm step of a feeder whose close coil is released by it, or that is not in CLOSING. -/
theorem State.OneFeeder.calmStep {s t : State} {f : Feeder} (h : s.OneFeeder t f) (calm : s.calm t f)
    (released : (t.feeder f).closeCoil = false ∨ (s.feeder f).state ≠ .closing) : s.CoilStep t f :=
  ⟨h.tripHeld calm, fun safe => State.closeSafe_of_released
    (released.elim id fun state => calm.closeCoil (safe.released state))⟩

/-- A calm step of a feeder that leaves its state and its INTERLOCK and picks no element up. -/
theorem State.OneFeeder.keptStep {s t : State} {f : Feeder} (h : s.OneFeeder t f) (calm : s.calm t f)
    (closeCoil : (t.feeder f).closeCoil = (s.feeder f).closeCoil)
    (state : (t.feeder f).state = (s.feeder f).state)
    (interlock : (t.feeder f).holds.interlock = (s.feeder f).holds.interlock)
    (picked : (s.prot f).pickedUp = false → (t.prot f).pickedUp = false) : s.CoilStep t f := by
  refine ⟨h.tripHeld calm, fun safe driven => ?_⟩
  obtain ⟨wasClosing, noInterlock, door, unpicked⟩ := safe (closeCoil ▸ driven)
  exact ⟨state.trans wasClosing, interlock.trans noInterlock,
    h.doorActive.trans door, picked unpicked⟩

theorem State.modFeeder_oneFeeder (s : State) (f : Feeder) (h : FeederRec → FeederRec) :
    s.OneFeeder (s.modFeeder f h) f := ⟨s.otherFeedersKept_modFeeder f h, rfl, rfl, rfl⟩

theorem State.modProt_oneFeeder (s : State) (f : Feeder) (h : ProtRec → ProtRec) : s.OneFeeder (s.modProt f h) f :=
  ⟨s.otherFeedersKept_modProt f h, rfl, rfl, rfl⟩

/-- A change of one feeder's record that touches neither its coils nor what they hang on. -/
theorem State.modFeeder_coilSteps (s : State) (f : Feeder) {h : FeederRec → FeederRec}
    (contact : (h (s.feeder f)).contact = (s.feeder f).contact)
    (timer : (h (s.feeder f)).contactTimer = (s.feeder f).contactTimer)
    (tripCoil : (h (s.feeder f)).tripCoil = (s.feeder f).tripCoil)
    (closeCoil : (h (s.feeder f)).closeCoil = (s.feeder f).closeCoil)
    (state : (h (s.feeder f)).state = (s.feeder f).state)
    (interlock : (h (s.feeder f)).holds.interlock = (s.feeder f).holds.interlock) :
    s.CoilSteps (s.modFeeder f h) := by
  have feeder := s.modFeeder_feeder_self f h
  refine (s.modFeeder_oneFeeder f h).coilSteps ((s.modFeeder_oneFeeder f h).keptStep
    (State.calm_of_feeder feeder ⟨contact, timer, tripCoil.trans, closeCoil.trans⟩) ?_ ?_ ?_ id) <;> rwa [feeder]

theorem State.modProt_coilSteps (s : State) (f : Feeder) {h : ProtRec → ProtRec}
    (picked : (s.prot f).pickedUp = false → (h (s.prot f)).pickedUp = false) : s.CoilSteps (s.modProt f h) :=
  (s.modProt_oneFeeder f h).coilSteps
    ((s.modProt_oneFeeder f h).keptStep (.refl _) rfl rfl rfl (by rwa [State.modProt_prot_self]))

/-! ### Trips -/

theorem State.tripStart_coilSteps (s : State) (f : Feeder) (cause : Cause) (origin : Option Byte) :
    s.CoilSteps (s.tripStart f cause origin) :=
  have one := State.oneFeeder_of_frame (s.tripStart_others f cause origin) (s.tripStart_frame f cause origin)
  one.coilSteps (one.calmStep (s.tripStart_calm f cause origin) (.inl (by rw [State.tripStart_feeder_self])))

theorem State.requestTrip_coilSteps (s : State) (f : Feeder) (cause : Cause) : s.CoilSteps (s.requestTrip f cause) :=
  State.coilSteps_ite (fun _ => s.tripStart_coilSteps f cause none) (fun _ => .refl s)

theorem State.laneDecision_coilSteps (s : State) (f : Feeder) : s.CoilSteps (s.laneDecision f) :=
  State.coilSteps_ite (fun _ => s.requestTrip_coilSteps f .lane) (fun _ => .refl s)

theorem State.completeTrip_coilSteps {s : State} {f : Feeder} (complete : s.tripComplete f = true)
    (state : (s.feeder f).state ≠ .closing) : s.CoilSteps (s.completeTrip f) := by
  have one : s.OneFeeder (s.completeTrip f) f := ⟨s.completeTrip_others f, by simp, by simp, by simp⟩
  have kept := s.completeTrip_afterKept f
  exact one.coilSteps ⟨⟨kept.contact, one.currentOut f,
    fun _ => .inr complete⟩, fun safe => State.closeSafe_of_released (kept.closeCoil.trans (safe.released state))⟩

theorem State.judgeTrip_coilSteps (f : Feeder) (s : State) : s.CoilSteps (s.judgeTrip f) :=
  State.coilSteps_ite (fun ⟨state, complete⟩ => State.completeTrip_coilSteps complete (by rw [state]; nofun))
    (fun _ => .refl s)

theorem State.topenEnds_coilSteps {s : State} {f : Feeder} (state : (s.feeder f).state = .tripping) :
    s.CoilSteps (s.topenEnds f) := by
  have notClosing : (s.feeder f).state ≠ .closing := by rw [state]; nofun
  have one := State.oneFeeder_of_frame (s.failBreaker_others f) (s.failBreaker_frame f)
  exact State.coilSteps_ite (fun complete => State.completeTrip_coilSteps complete notClosing)
    (fun _ => one.coilSteps (one.calmStep (s.failBreaker_calm f) (.inr notClosing)))

/-- A failed breaker is cleared, before the groups lose its cause (R101). -/
def State.breakerCleared (s : State) (f : Feeder) : State :=
  (s.modFeeder f fun r =>
    { r with tripCoil := false, op := .none, tripCause := none, attempts := 0, role := none }).setState f .opened

theorem State.breakerCleared_feeder (s : State) (f : Feeder) :
    (s.breakerCleared f).feeder f = { s.feeder f with
      tripCoil := false, op := .none, tripCause := none, attempts := 0, role := none, state := .opened } := by
  simp only [State.breakerCleared, State.setState_feeder_self, State.modFeeder_feeder_self]

theorem State.breakerCleared_others (s : State) (f : Feeder) : s.otherFeedersKept (s.breakerCleared f) f :=
  State.otherFeedersKept_trans (s.otherFeedersKept_modFeeder f _) (State.setState_others _ f _)

theorem State.clearFailed_eq (s : State) (f : Feeder) :
    s.clearFailed f = (if (s.breakerCleared f).anyFailed then s.breakerCleared f
      else (s.breakerCleared f).putCauses .breakerFailure false).status := rfl

/-- A failed breaker is cleared where its trip is complete (R101). -/
theorem State.clearFailed_coilSteps {s : State} {f : Feeder} (complete : s.tripComplete f = true)
    (state : (s.feeder f).state = .failed) : s.CoilSteps (s.clearFailed f) := by
  let u := s.breakerCleared f
  have feeder := s.breakerCleared_feeder f
  have one : s.OneFeeder u f := ⟨s.breakerCleared_others f, by simp [u, State.breakerCleared],
    by simp [u, State.breakerCleared], by simp [u, State.breakerCleared]⟩
  have cleared : s.CoilSteps u := one.coilSteps ⟨⟨by rw [feeder],
    one.currentOut f, fun _ => .inr complete⟩,
    fun safe => State.closeSafe_of_released (by rw [feeder]; exact safe.released (by rw [state]; nofun))⟩
  have causes : u.CoilSteps (if u.anyFailed then u else u.putCauses .breakerFailure false) :=
    State.coilSteps_ite (fun _ => .refl u)
      (fun _ => State.coilSteps_of_blocks)
  rw [State.clearFailed_eq]
  exact (cleared.trans causes).trans (State.status_same _).coilSteps

/-! ### Closes -/

theorem State.dropClose_coilSteps (s : State) (f : Feeder) : s.CoilSteps (s.dropClose f) := by
  have one : s.OneFeeder (s.modFeeder f fun r => { r with closeCoil := false }) f := s.modFeeder_oneFeeder f _
  have feeder := s.modFeeder_feeder_self f fun r => { r with closeCoil := false }
  exact State.coilSteps_ite (fun _ => one.coilSteps (one.calmStep
    (State.calm_of_feeder feeder ⟨rfl, rfl, id, fun _ => rfl⟩) (.inl (by rw [feeder])))) (fun _ => .refl s)

theorem State.failClose_coilSteps (s : State) (f : Feeder) (detail : Int) : s.CoilSteps (s.failClose f detail) :=
  have one : s.OneFeeder (s.failClose f detail) f := ⟨s.failClose_others f detail, by simp, by simp, by simp⟩
  one.coilSteps (one.calmStep (s.failClose_calm f detail) (.inl (s.failClose_afterKept f detail).closeCoil))

theorem State.closeBegun_blocks (s : State) (f : Feeder) :
    (s.closeBegun f).li = s.li ∧ (s.closeBegun f).im = s.im ∧ (s.closeBegun f).cl = s.cl := by
  simp [State.closeBegun]

/-- A feeder in CLOSING keeps its pick-ups: no state whose entry re-arms LOWV is entered (R62). -/
theorem State.closeBegun_pickedUp (s : State) (f : Feeder) :
    ((s.closeBegun f).prot f).pickedUp = (s.prot f).pickedUp := by
  simp only [State.closeBegun, State.status_prot, State.setState]
  generalize same : (s.modFeeder f _).modFeeder f _ = u
  have prot : u.prot f = s.prot f := by rw [← same]; rfl
  obtain kept | taken := u.setCopy_prot_self f .closing
  · rw [kept, prot]
  · rw [taken, prot]
    simp [ProtRec.pickedUp, ProtRec.taking, FeederState.rearmsLowv]

/-- A close coil is driven where the close is not held off (R78, R89). -/
theorem State.closeBegun_coilSteps {s : State} {f : Feeder} (free : s.closeHeld f = false) :
    s.CoilSteps (s.closeBegun f) := by
  obtain ⟨li, im, cl⟩ := s.closeBegun_blocks f
  have one : s.OneFeeder (s.closeBegun f) f := ⟨s.closeBegun_others f, li, im, cl⟩
  have feeder := s.closeBegun_feeder f
  simp only [State.closeHeld, Bool.or_eq_false_iff] at free
  obtain ⟨⟨interlock, door⟩, picked⟩ := free
  refine one.coilSteps ⟨⟨by rw [feeder]; rfl, one.currentOut f,
    fun driven => .inl (by rw [feeder]; exact driven)⟩, fun _ _ => ⟨by rw [feeder]; rfl, ?_,
    one.doorActive.trans door, (s.closeBegun_pickedUp f).trans picked⟩⟩
  rw [feeder]
  exact interlock

theorem State.askClose_coilSteps (s : State) (f : Feeder) : s.CoilSteps (s.askClose f) :=
  State.coilSteps_ite (fun _ => s.failClose_coilSteps f 2)
    (fun free => (State.closeBegun_coilSteps (by simpa using free)).trans (State.laneDecision_coilSteps _ f))

theorem State.enterLockout_coilSteps {s : State} {f : Feeder} (state : (s.feeder f).state ≠ .closing) :
    s.CoilSteps (s.enterLockout f) :=
  have one : s.OneFeeder (s.enterLockout f) f := ⟨s.enterLockout_others f, by simp, by simp, by simp⟩
  one.coilSteps (one.calmStep (s.enterLockout_calm f) (.inr state))

theorem State.enterOpen_coilSteps {s : State} {f : Feeder} (state : (s.feeder f).state ≠ .closing) (n : Nat) :
    s.CoilSteps (s.enterOpen f n) :=
  have one : s.OneFeeder (s.enterOpen f n) f := ⟨s.enterOpen_others f n, by simp, by simp, by simp⟩
  one.coilSteps (one.calmStep (s.enterOpen_calm f n) (.inr state))

theorem State.enterTripped_coilSteps {s : State} {f : Feeder} (state : (s.feeder f).state ≠ .closing) (role : Role) :
    s.CoilSteps (s.enterTripped f role) :=
  have one : s.OneFeeder (s.enterTripped f role) f := ⟨s.enterTripped_others f role, by simp, by simp, by simp⟩
  one.coilSteps (one.calmStep (s.enterTripped_calm f role) (.inr state))

theorem State.reclose_coilSteps {s : State} {f : Feeder} (state : (s.feeder f).state ≠ .closing) :
    s.CoilSteps (s.reclose f) :=
  State.coilSteps_ite (fun _ => s.askClose_coilSteps f) fun _ =>
    State.coilSteps_ite (fun _ => State.enterLockout_coilSteps state) fun _ =>
      (s.modFeeder_coilSteps f rfl rfl rfl rfl rfl rfl).trans (State.askClose_coilSteps _ f)

theorem State.confirmClose_coilSteps (s : State) (f : Feeder) : s.CoilSteps (s.confirmClose f) := by
  have one : s.OneFeeder (s.intoClosed f) f := ⟨s.intoClosed_others f, by simp, by simp, by simp⟩
  have feeder := s.intoClosed_feeder f
  have into : s.CoilSteps (s.intoClosed f) := one.coilSteps
    (one.calmStep (State.calm_of_feeder feeder ⟨rfl, rfl, id, fun _ => rfl⟩) (.inl (by rw [feeder]; rfl)))
  exact into.trans ((State.status_same _).coilSteps.trans (State.laneDecision_coilSteps _ f))

/-! ### Tests -/

theorem State.endTest_state (s : State) (f : Feeder) : ((s.endTest f).feeder f).state = (s.feeder f).state := by
  rw [State.endTest_feeder]

theorem State.endTest_coilSteps (s : State) (f : Feeder) : s.CoilSteps (s.endTest f) :=
  have one : s.OneFeeder (s.endTest f) f := ⟨s.endTest_others f, by simp, by simp, by simp⟩
  have feeder := s.endTest_feeder f
  one.coilSteps (one.keptStep (State.calm_of_feeder feeder ⟨rfl, rfl, id, id⟩) (by rw [feeder]) (by rw [feeder])
    (by rw [feeder]) (by simp [State.prot_of_fp (s := s)]))

theorem State.abandonHeld_coilSteps {s : State} {f : Feeder} (state : (s.feeder f).state ≠ .closing) :
    s.CoilSteps (s.abandonHeld f) := by
  have ended := s.endTest_coilSteps f
  have notClosing : ((s.endTest f).feeder f).state ≠ .closing := by rwa [State.endTest_state]
  rw [State.abandonHeld_eq]
  exact State.coilSteps_ite
    (fun _ => ended.trans ((State.enterOpen_coilSteps notClosing _).trans (State.alarm_same _ _ _ _ _).coilSteps))
    (fun _ => ended.trans (State.enterTripped_coilSteps notClosing _))

end Sys2Proof.Machine
end

section
/-! PROOF. The coils through the events of one feeder: contact edges, hold reasons, the follower, the line test and the
elements (sections 4.5, 5.5 and 6.2 to 6.7). -/

namespace Sys2Proof.Machine

/-! ### Contact edges -/

theorem State.directRelease_coilSteps {s : State} {f : Feeder} (state : (s.feeder f).state ≠ .closing) :
    s.CoilSteps (s.directRelease f) :=
  have one := State.oneFeeder_of_frame (s.directRelease_others f) (s.directRelease_frame f)
  one.coilSteps (one.calmStep (s.directRelease_calm f) (.inr state))

theorem State.uncommandedClose_coilSteps {s : State} {f : Feeder} (state : (s.feeder f).state ≠ .closing) :
    s.CoilSteps (s.uncommandedClose f) :=
  have one := State.oneFeeder_of_frame (s.uncommandedClose_others f) (s.uncommandedClose_frame f)
  one.coilSteps (one.calmStep (s.uncommandedClose_calm f) (.inr state))

theorem State.contactEdge_coilSteps (s : State) (f : Feeder) : s.CoilSteps (s.contactEdge f) := by
  have kept := State.CoilSteps.refl s
  simp only [State.contactEdge]
  split
  case h_1 => exact State.coilSteps_ite (fun _ => s.confirmClose_coilSteps f) (fun _ => kept)
  case h_2 state =>
    exact State.coilSteps_ite (fun _ => kept) (fun _ => State.directRelease_coilSteps (by rw [state]; nofun))
  case h_3 => exact s.judgeTrip_coilSteps f
  case h_4 => exact kept
  case h_5 notClosing _ _ _ =>
    exact State.coilSteps_ite (fun _ => State.uncommandedClose_coilSteps notClosing) (fun _ => kept)

/-! ### The follower and the hold reasons -/

theorem State.judgeFollower_coilSteps (f : Feeder) (s : State) : s.CoilSteps (s.judgeFollower f) :=
  State.coilSteps_ite (fun ⟨state, _⟩ => (s.modFeeder_coilSteps f rfl rfl rfl rfl rfl rfl).trans
    (State.reclose_coilSteps (by simp [state]))) (fun _ => .refl s)

theorem State.judgeDead_coilSteps (s : State) (f : Feeder) : s.CoilSteps (s.judgeDead f) :=
  s.modFeeder_coilSteps f rfl rfl rfl rfl rfl rfl

theorem State.holdCeases_coilSteps (s : State) (f : Feeder) (m : HoldReason) : s.CoilSteps (s.holdCeases f m) := by
  cases m
  case interlock => exact s.judgeFollower_coilSteps f
  case lane => exact s.judgeFollower_coilSteps f
  all_goals exact .refl s

theorem State.holdArises_coilSteps (s : State) (f : Feeder) (m : HoldReason) : s.CoilSteps (s.holdArises f m) := by
  unfold State.holdArises
  split
  · exact s.dropClose_coilSteps f
  · exact .refl s
  · exact State.abandonHeld_coilSteps (by simp [*])
  · exact .refl s

/-- A hold reason is put into a feeder's set and its dead time judged. -/
def State.holdPut (s : State) (f : Feeder) (m : HoldReason) (present : Bool) : State :=
  (s.modFeeder f fun r => { r with holds := r.holds.put m present }).judgeDead f

theorem State.holdPut_feeder (s : State) (f : Feeder) (m : HoldReason) (present : Bool) :
    ∃ dead, (s.holdPut f m present).feeder f = { s.feeder f with holds := (s.feeder f).holds.put m present, dead } := by
  rw [State.holdPut, State.judgeDead_feeder, State.modFeeder_feeder_self]
  exact ⟨_, rfl⟩

theorem State.holdPut_oneFeeder (s : State) (f : Feeder) (m : HoldReason) (present : Bool) :
    s.OneFeeder (s.holdPut f m present) f :=
  ⟨State.otherFeedersKept_trans (s.otherFeedersKept_modFeeder f _) (State.judgeDead_others _ f), rfl, rfl, rfl⟩

/-- A hold reason that does not add INTERLOCK forbids no close. -/
theorem State.holdPut_coilSteps {s : State} {f : Feeder} {m : HoldReason} {present : Bool}
    (allows : m = .interlock → present = false) : s.CoilSteps (s.holdPut f m present) := by
  have one := s.holdPut_oneFeeder f m present
  obtain ⟨dead, feeder⟩ := s.holdPut_feeder f m present
  refine one.coilSteps ⟨one.tripHeld (State.calm_of_feeder feeder ⟨rfl, rfl, id, id⟩), fun safe driven => ?_⟩
  rw [feeder] at driven
  obtain ⟨state, interlock, door, picked⟩ := safe driven
  refine ⟨by rw [feeder]; exact state, ?_, door, picked⟩
  rw [feeder]
  cases m
  case interlock => exact allows rfl
  all_goals exact interlock

/-- INTERLOCK releases the close coil of a feeder in CLOSING, and no other feeder's is driven (R89). -/
theorem State.interlockArises_coilSteps (s : State) (f : Feeder) :
    s.CoilSteps ((s.holdPut f .interlock true).holdArises f .interlock) := by
  let u := s.holdPut f .interlock true
  have one : s.OneFeeder u f := s.holdPut_oneFeeder f .interlock true
  obtain ⟨dead, feeder⟩ := s.holdPut_feeder f .interlock true
  have calm : s.calm u f := State.calm_of_feeder feeder ⟨rfl, rfl, id, id⟩
  by_cases closing : (s.feeder f).state = .closing
  · have dropped : u.holdArises f .interlock = u.modFeeder f fun r => { r with closeCoil := false } := by
      have state : (u.feeder f).state = .closing := by rw [feeder]; exact closing
      simp [State.holdArises, State.dropClose, state]
    have whole : s.OneFeeder (u.holdArises f .interlock) f := by
      rw [dropped]
      exact ⟨State.otherFeedersKept_trans one.others (u.otherFeedersKept_modFeeder f _), rfl, rfl, rfl⟩
    have released := u.modFeeder_feeder_self f fun r => { r with closeCoil := false }
    exact whole.coilSteps (whole.calmStep (calm.trans (by rw [dropped, released]; exact ⟨rfl, rfl, id, fun _ => rfl⟩))
      (.inl (by rw [dropped, released])))
  · exact (one.coilSteps (one.calmStep calm (.inr closing))).trans (u.holdArises_coilSteps f .interlock)

theorem State.setHold_coilSteps (s : State) (f : Feeder) (m : HoldReason) (present : Bool) :
    s.CoilSteps (s.setHold f m present) := by
  refine State.coilSteps_ite (fun _ => .refl s) fun _ => State.coilSteps_ite (fun is => ?_) fun not => ?_
  · by_cases interlock : m = .interlock
    · rw [interlock, is]
      exact s.interlockArises_coilSteps f
    · exact (State.holdPut_coilSteps fun same => absurd same interlock).trans (State.holdArises_coilSteps _ f m)
  · exact (State.holdPut_coilSteps fun _ => by simpa using not).trans (State.holdCeases_coilSteps _ f m)

theorem State.judgeLaneHold_coilSteps (f : Feeder) (s : State) : s.CoilSteps (s.judgeLaneHold f) :=
  s.setHold_coilSteps f .lane _

theorem State.judgeSupply_coilSteps (f : Feeder) (s : State) : s.CoilSteps (s.judgeSupply f) :=
  State.coilSteps_ite (fun _ => s.setHold_coilSteps f .supply _) (fun _ => .refl s)

theorem State.liveElapses_coilSteps (s : State) (f : Feeder) : s.CoilSteps (s.liveElapses f) :=
  (s.modFeeder_coilSteps f rfl rfl rfl rfl rfl rfl).trans (State.judgeFollower_coilSteps f _)

theorem State.followEnds_coilSteps (s : State) (f : Feeder) : s.CoilSteps (s.followEnds f) :=
  (s.modFeeder_coilSteps f rfl rfl rfl rfl rfl rfl).trans (State.judgeDead_coilSteps _ f)

theorem State.setNotice_coilSteps (s : State) (f : Feeder) (n : Option NoticeRec) : s.CoilSteps (s.setNotice f n) :=
  (s.modFeeder_coilSteps f rfl rfl rfl rfl rfl rfl).trans (State.setHold_coilSteps _ f _ _)

theorem State.noticeStart_coilSteps (s : State) (f : Feeder) (n : Byte) : s.CoilSteps (s.noticeStart f n) := by
  simp only [State.noticeStart]
  split
  · exact State.coilSteps_ite (fun _ => .refl s) (fun _ => s.setNotice_coilSteps f _)
  · exact s.setNotice_coilSteps f _

theorem State.noticeEnd_coilSteps (s : State) (f : Feeder) (n : Byte) : s.CoilSteps (s.noticeEnd f n) := by
  simp only [State.noticeEnd]
  split
  · exact State.coilSteps_ite (fun _ => s.setNotice_coilSteps f _) (fun _ => .refl s)
  · exact .refl s

theorem State.takeNotice_coilSteps (s : State) (n : Byte) (b : NoticeBody) : s.CoilSteps (s.takeNotice n b) :=
  State.coilSteps_ite (fun _ => State.forFeeders_coilSteps (fun f u =>
    State.coilSteps_ite (fun _ => State.coilSteps_ite (fun _ => u.noticeStart_coilSteps f n) fun _ =>
      State.coilSteps_ite (fun _ => u.noticeEnd_coilSteps f n) fun _ => .refl u) fun _ => .refl u) s) (fun _ => .refl s)

/-! ### Notices of the line-side lane and of the busbar -/

theorem State.watchLive_coilSteps (f : Feeder) (s : State) : s.CoilSteps (s.watchLive f) := by
  rw [State.watchLive_eq]
  exact s.modFeeder_coilSteps f rfl rfl rfl rfl rfl rfl

theorem State.judgeAgreement_coilSteps (f : Feeder) (s : State) : s.CoilSteps (s.judgeAgreement f) := by
  rw [State.judgeAgreement_eq]
  exact s.modFeeder_coilSteps f rfl rfl rfl rfl rfl rfl

theorem State.watchLowv_coilSteps (f : Feeder) (s : State) : s.CoilSteps (s.watchLowv f) := by
  rw [State.watchLowv_eq]
  refine s.modProt_coilSteps f fun unpicked => ?_
  unfold State.lowvRecord
  split <;> exact unpicked

theorem State.rearmLowv_coilSteps (f : Feeder) (s : State) : s.CoilSteps (s.rearmLowv f) := by
  refine State.coilSteps_ite (fun _ => s.modProt_coilSteps f fun unpicked => ?_) (fun _ => .refl s)
  simp only [ProtRec.pickedUp, Bool.or_eq_false_iff] at unpicked ⊢
  exact ⟨unpicked.1, trivial⟩

theorem State.stopLowv_coilSteps (f : Feeder) (s : State) : s.CoilSteps (s.stopLowv f) := s.modProt_coilSteps f id

/-! ### The elements -/

/-- An element that picks up releases the close coil of a feeder in CLOSING (R70, R89). -/
theorem State.setProt_coilSteps (s : State) (f : Feeder) (r : ProtRec) : s.CoilSteps (s.setProt f r) := by
  let u := s.modProt f fun _ => r
  have one : s.OneFeeder u f := s.modProt_oneFeeder f _
  by_cases rises : (!(s.prot f).pickedUp && r.pickedUp) = true
  · have set : s.setProt f r = u.dropClose f := if_pos rises
    rw [set]
    by_cases closing : (s.feeder f).state = .closing
    · have dropped : u.dropClose f = u.modFeeder f fun q => { q with closeCoil := false } := if_pos closing
      have whole : s.OneFeeder (u.dropClose f) f := by
        rw [dropped]
        exact ⟨State.otherFeedersKept_trans one.others (u.otherFeedersKept_modFeeder f _), rfl, rfl, rfl⟩
      have released := u.modFeeder_feeder_self f fun q => { q with closeCoil := false }
      exact whole.coilSteps (whole.calmStep (by rw [dropped, State.calm, released]; exact ⟨rfl, rfl, id, fun _ => rfl⟩)
        (.inl (by rw [dropped, released])))
    · exact (one.coilSteps (one.calmStep (.refl _) (.inr closing))).trans (u.dropClose_coilSteps f)
  · have set : s.setProt f r = u := if_neg rises
    rw [set]
    refine s.modProt_coilSteps f fun unpicked => ?_
    simpa [unpicked] using rises

theorem State.writeRecord_coilSteps (s : State) (f : Feeder) (cause : Cause) (observed : Bool) (origin : Option Byte) :
    s.CoilSteps (s.writeRecord f cause observed origin) := s.modProt_coilSteps f id

theorem State.takeDecision_coilSteps (s : State) (f : Feeder) (cause : Cause) (detail : Int) :
    s.CoilSteps (s.takeDecision f cause detail) :=
  State.coilSteps_ite
    (fun _ => State.coilSteps_ite
      (fun _ => (s.writeRecord_coilSteps f cause true none).trans (State.alarm_same _ _ _ _ _).coilSteps)
      (fun _ => s.requestTrip_coilSteps f cause))
    (fun _ => .refl s)

theorem State.evaluateCurrent_coilSteps (s : State) (f : Feeder) : s.CoilSteps (s.evaluateCurrent f) := by
  refine State.coilSteps_ite (fun _ => ?_) fun _ => State.coilSteps_ite (fun _ => ?_) fun _ => s.setProt_coilSteps f _
  · exact (s.setProt_coilSteps f _).trans (State.takeDecision_coilSteps _ f _ _)
  · exact (s.setProt_coilSteps f _).trans (State.takeDecision_coilSteps _ f _ _)

theorem State.protCurrent_coilSteps (s : State) (f : Feeder) (valid : Bool) : s.CoilSteps (s.protCurrent f valid) :=
  have tracked : s.CoilSteps (s.trackPeak f valid) := s.modProt_coilSteps f id
  State.coilSteps_ite (fun _ => tracked.trans (State.evaluateCurrent_coilSteps _ f)) (fun _ => tracked)

theorem State.lowvDecides_coilSteps (s : State) (f : Feeder) : s.CoilSteps (s.lowvDecides f) :=
  (s.setProt_coilSteps f _).trans (State.takeDecision_coilSteps _ f _ _)

theorem State.currentLost_coilSteps (s : State) (f : Feeder) : s.CoilSteps (s.currentLost f) :=
  (s.modProt_coilSteps f id).trans (State.laneDecision_coilSteps _ f)

/-! ### Health changes and notices of the lanes (R8) -/

theorem State.busbarHealth_coilSteps (s : State) : s.CoilSteps s.busbarHealth := by
  have holds (u : State) : u.CoilSteps (forGroups State.judgeMeasure (forFeeders State.judgeLaneHold u)) :=
    (State.forFeeders_coilSteps State.judgeLaneHold_coilSteps u).trans
      (State.forGroups_coilSteps (fun _ v => State.coilSteps_of_blocks) _)
  have stops := State.forFeeders_coilSteps State.stopLowv_coilSteps s
  have rests (u : State) : u.CoilSteps { u with fc := { u.fc with wakeTimer := none } } :=
    State.coilSteps_of_blocks
  refine State.coilSteps_ite (fun stale => ?_) fun fresh => ?_
  · rw [if_pos stale]
    exact (stops.trans (holds _)).trans (rests _)
  · rw [if_neg fresh]
    exact holds s

theorem State.currentHealth_coilSteps (s : State) (f : Feeder) : s.CoilSteps (s.currentHealth f) :=
  have lost : s.CoilSteps (if s.laneFresh (currentLane f) then s else s.currentLost f) :=
    State.coilSteps_ite (fun _ => .refl s) (fun _ => s.currentLost_coilSteps f)
  (lost.trans (State.judgeLaneHold_coilSteps f _)).trans (State.judgeTrip_coilSteps f _)

theorem State.lineHealth_coilSteps (s : State) (f : Feeder) : s.CoilSteps (s.lineHealth f) := by
  have stopped : s.CoilSteps (State.stopLowv f (s.modFeeder f fun r => { r with live := .stopped })) :=
    (s.modFeeder_coilSteps f rfl rfl rfl rfl rfl rfl).trans (State.stopLowv_coilSteps f _)
  have lost : s.CoilSteps (if s.laneFresh (lineLane f) then s
      else State.stopLowv f (s.modFeeder f fun r => { r with live := .stopped })) :=
    State.coilSteps_ite (fun _ => .refl s) (fun _ => stopped)
  exact lost.trans (State.judgeLaneHold_coilSteps f _)

theorem State.healthChanged_coilSteps (s : State) (l : Lane) : s.CoilSteps (s.healthChanged l) := by
  unfold State.healthChanged
  split
  · exact s.busbarHealth_coilSteps
  · exact s.currentHealth_coilSteps _
  · exact s.lineHealth_coilSteps _
  · exact State.coilSteps_of_blocks
  · exact State.coilSteps_of_blocks

theorem State.handHealth_coilSteps (s : State) (l : Lane) (was : Health) (detail : Int) :
    s.CoilSteps (s.handHealth l was detail) := by
  have raised : s.CoilSteps (if was = .fresh then s.raiseStale l detail else s) :=
    State.coilSteps_ite (fun _ => (s.raiseStale_same l detail).coilSteps) (fun _ => .refl s)
  exact State.coilSteps_ite (fun _ => .refl s) (fun _ => raised.trans (State.healthChanged_coilSteps _ l))

theorem State.watchBusbar_coilSteps (s : State) : s.CoilSteps s.watchBusbar := State.coilSteps_of_blocks

theorem State.busbarNotice_coilSteps (s : State) : s.CoilSteps s.busbarNotice := by
  let watched := forFeeders State.watchLowv s
  have watch : s.CoilSteps watched := State.forFeeders_coilSteps State.watchLowv_coilSteps s
  let supplied := if watched.laneFresh 0 then forFeeders State.judgeSupply watched else watched
  have supply : watched.CoilSteps supplied :=
    State.coilSteps_ite (fun _ => State.forFeeders_coilSteps State.judgeSupply_coilSteps watched) (fun _ => .refl watched)
  have agree : supplied.CoilSteps (forFeeders State.judgeAgreement supplied) :=
    State.forFeeders_coilSteps State.judgeAgreement_coilSteps supplied
  dsimp only [State.busbarNotice]
  exact ((watch.trans supply).trans agree).trans
    (State.coilSteps_ite (fun _ => State.watchBusbar_coilSteps _) fun _ => .refl _)

theorem State.lineNotice_coilSteps (s : State) (f : Feeder) : s.CoilSteps (s.lineNotice f) := by
  let watched := State.watchLowv f (State.rearmLowv f s)
  have watch : s.CoilSteps watched := (s.rearmLowv_coilSteps f).trans (State.watchLowv_coilSteps f _)
  have live : watched.CoilSteps (if watched.laneFresh (lineLane f) then State.watchLive f watched else watched) :=
    State.coilSteps_ite (fun _ => watched.watchLive_coilSteps f) (fun _ => .refl watched)
  exact (watch.trans live).trans (State.judgeAgreement_coilSteps f _)

theorem State.notice_coilSteps (s : State) (l : Lane) (valid wasSilent : Bool) :
    s.CoilSteps (s.notice l valid wasSilent) := by
  unfold State.notice
  split
  · exact State.coilSteps_ite (fun _ => s.busbarNotice_coilSteps) (fun _ => .refl s)
  · exact (s.protCurrent_coilSteps _ valid).trans (State.judgeTrip_coilSteps _ _)
  · exact State.coilSteps_ite (fun _ => s.lineNotice_coilSteps _) (fun _ => .refl s)
  · exact State.coilSteps_ite
      (fun _ => State.coilSteps_of_blocks) (fun _ => .refl s)
  · exact State.coilSteps_ite
      (fun _ => State.coilSteps_of_blocks) (fun _ => .refl s)

/-! ### The line test -/

theorem State.setStage_feeder (s : State) (f : Feeder) (stage : Stage) (us : Nat) :
    ∃ test, s.setStage f stage us = s.modFeeder f fun r => { r with test } := by
  cases test : (s.feeder f).test with
  | some r => exact ⟨_, State.setStage_test test stage us⟩
  | none => exact ⟨none, State.modFeeder_congr (by simp only [test]; rw [← test])⟩

theorem State.setStage_coilSteps (s : State) (f : Feeder) (stage : Stage) (us : Nat) :
    s.CoilSteps (s.setStage f stage us) := by
  obtain ⟨test, set⟩ := s.setStage_feeder f stage us
  rw [set]
  exact s.modFeeder_coilSteps f rfl rfl rfl rfl rfl rfl

theorem State.inject_coilSteps (s : State) (f : Feeder) : s.CoilSteps (s.inject f) :=
  (s.modFeeder_coilSteps f rfl rfl rfl rfl rfl rfl).trans (State.setStage_coilSteps _ f _ _)

end Sys2Proof.Machine
end

section
/-! PROOF. The coils through the line test, the receptions, the commands and start-up (sections 6.5, 7.5, 9.6 and
11.6). -/

namespace Sys2Proof.Machine

/-! ### A test begins (R113) -/

/-- The record of a test that begins (R113). -/
def State.newTest (s : State) (f : Feeder) : TestRec :=
  { stage := .notice, timer := s.clock + 60000, startSent := (s.feederSet f).farStation != 0, agreement := none }

/-- A feeder record in TESTING with a test that begins (R113). -/
def State.inTesting (s : State) (f : Feeder) (r : FeederRec) : FeederRec :=
  { r with state := .testing, dead := none, follow := none, live := .stopped, test := some (s.newTest f) }

/-- A test that a notice or a lost lane forbids leaves the feeder OPEN (R113). -/
theorem State.beginTest_refused {s : State} {f : Feeder}
    (refused : s.lowerNotice f = true ∨ (s.feeder f).holds.lane = true) :
    s.beginTest f =
      (s.enterOpen f (s.feeder f).attempts).alarm .closeRefused (.feeder f) (some .abandoned) 0 :=
  if_pos (by simpa using refused)

/-- TEST NOTICE START reaches the ports alone, before the feeder's record and its copy change. -/
theorem State.beginTest_begun {s : State} {f : Feeder} (lower : s.lowerNotice f = false)
    (lane : (s.feeder f).holds.lane = false) :
    ∃ u : State, s.beginTest f =
        ((u.modFeeder f fun r => { r with test := some (s.newTest f) }).setState f .testing).status ∧
      u.fp = s.fp ∧
      u.fs = (s.modFeeder f fun r => { r with dead := none, follow := none, live := .stopped }).fs := by
  let u := s.modFeeder f fun r => { r with dead := none, follow := none, live := .stopped }
  let v := if (s.feederSet f).farStation != 0 then u.sendNotice f 1 else u
  have begun : s.beginTest f = ((v.modFeeder f fun r =>
      { r with
        test :=
          some { stage := .notice, timer := v.clock + 60 * msec, startSent := (s.feederSet f).farStation != 0,
                 agreement := none } }).setState f .testing).status := if_neg (by simp [lower, lane])
  have clock : v.clock = s.clock := by simp [v, State.ite_blocks, u]
  refine ⟨v, begun.trans ?_, by simp [v, State.ite_blocks, u], by simp [v, State.ite_blocks, u]⟩
  rw [clock]
  rfl

theorem State.beginTest_feeder {s : State} {f : Feeder} (lower : s.lowerNotice f = false)
    (lane : (s.feeder f).holds.lane = false) : (s.beginTest f).feeder f = s.inTesting f (s.feeder f) := by
  obtain ⟨u, begun, -, fs⟩ := State.beginTest_begun lower lane
  rw [begun, State.status_feeder, State.setState_feeder_self, State.modFeeder_feeder_self, State.feeder_of_fs fs,
    State.modFeeder_feeder_self]
  rfl

theorem State.beginTest_others (s : State) (f : Feeder) : s.otherFeedersKept (s.beginTest f) f := by
  by_cases refused : s.lowerNotice f = true ∨ (s.feeder f).holds.lane = true
  · rw [State.beginTest_refused refused]
    exact State.otherFeedersKept_trans (s.enterOpen_others f _) (State.alarm_others _ _ _ _ _ f)
  · simp only [not_or, Bool.not_eq_true] at refused
    obtain ⟨u, begun, fp, fs⟩ := State.beginTest_begun refused.1 refused.2
    rw [begun]
    exact State.otherFeedersKept_trans (s.otherFeedersKept_modFeeder f _) <|
      State.otherFeedersKept_trans (State.otherFeedersKept_of_blocks fs (fp.trans (by simp)) f) <|
        State.otherFeedersKept_trans (u.otherFeedersKept_modFeeder f _) <|
          State.otherFeedersKept_trans (State.setState_others _ f _) (State.status_others _ f)

theorem State.beginTest_calm (s : State) (f : Feeder) : s.calm (s.beginTest f) f := by
  by_cases refused : s.lowerNotice f = true ∨ (s.feeder f).holds.lane = true
  · rw [State.beginTest_refused refused]
    exact State.calm_of_feeder ((State.alarm_feeder _ _ _ _ _ f).trans (s.enterOpen_feeder f _)) ⟨rfl, rfl, id, id⟩
  · simp only [not_or, Bool.not_eq_true] at refused
    exact State.calm_of_feeder (State.beginTest_feeder refused.1 refused.2) ⟨rfl, rfl, id, id⟩

/-! ### Steps that begin with every close coil released -/

/-- A step of the part from a state in which the feeder's close coil is released. -/
structure State.CoilStart (s t : State) (f : Feeder) : Prop where
  held : s.TripHeld t f
  close : (s.feeder f).closeCoil = false → t.CloseSafe f

/-- The same of every feeder. -/
def State.CoilStarts (s t : State) : Prop := ∀ f, s.CoilStart t f

theorem State.CoilSteps.starts {s t : State} (h : s.CoilSteps t) : s.CoilStarts t := fun f =>
  ⟨(h f).held, fun released => (h f).close (State.closeSafe_of_released released)⟩

theorem State.CoilStarts.trans_steps {s t u : State} (h : s.CoilStarts t) (k : t.CoilSteps u) : s.CoilStarts u :=
  fun f => ⟨(h f).held.trans (k f).held, (k f).close ∘ (h f).close⟩

/-- A calm step of one feeder before others drives no close coil. -/
theorem State.CoilStarts.after_calm {s t u : State} {f : Feeder} (one : s.OneFeeder t f) (calm : s.calm t f)
    (k : t.CoilStarts u) : s.CoilStarts u := fun f' => by
  by_cases same : f' = f
  · subst same
    exact ⟨(one.tripHeld calm).trans (k f').held, (k f').close ∘ calm.closeCoil⟩
  · have feeder := (one.others f' same).1
    have other : s.TripHeld t f' := one.tripHeld_ne same
    exact ⟨other.trans (k f').held, fun released => (k f').close (by rwa [feeder])⟩

theorem State.OneFeeder.starts {s t : State} {f : Feeder} (one : s.OneFeeder t f) (calm : s.calm t f) :
    s.CoilStarts t := .after_calm one calm (State.CoilSteps.refl t).starts

theorem State.coilStarts_ite {s a b : State} {p : Prop} [Decidable p] (yes : p → s.CoilStarts a)
    (no : ¬p → s.CoilStarts b) : s.CoilStarts (if p then a else b) := by
  split
  · exact yes ‹p›
  · exact no ‹¬p›

/-! ### The line test -/

theorem State.enterLockout_starts (s : State) (f : Feeder) : s.CoilStarts (s.enterLockout f) :=
  State.OneFeeder.starts ⟨s.enterLockout_others f, by simp, by simp, by simp⟩ (s.enterLockout_calm f)

theorem State.reclose_starts (s : State) (f : Feeder) : s.CoilStarts (s.reclose f) :=
  State.coilStarts_ite (fun _ => (s.askClose_coilSteps f).starts) fun _ =>
    State.coilStarts_ite (fun _ => s.enterLockout_starts f) fun _ =>
      ((s.modFeeder_coilSteps f rfl rfl rfl rfl rfl rfl).trans (State.askClose_coilSteps _ f)).starts

theorem State.beginTest_starts (s : State) (f : Feeder) : s.CoilStarts (s.beginTest f) :=
  State.OneFeeder.starts ⟨s.beginTest_others f, by simp, by simp, by simp⟩ (s.beginTest_calm f)

theorem State.deadEnds_starts (s : State) (f : Feeder) : s.CoilStarts (s.deadEnds f) :=
  State.coilStarts_ite (fun _ => s.enterLockout_starts f) fun _ =>
    .after_calm (s.modFeeder_oneFeeder f _)
      (State.calm_of_feeder (s.modFeeder_feeder_self f _) ⟨rfl, rfl, id, id⟩) (State.beginTest_starts _ f)

theorem State.enterOpen_starts (s : State) (f : Feeder) (n : Nat) : s.CoilStarts (s.enterOpen f n) :=
  State.OneFeeder.starts ⟨s.enterOpen_others f n, by simp, by simp, by simp⟩ (s.enterOpen_calm f n)

theorem State.enterTripped_starts (s : State) (f : Feeder) (role : Role) : s.CoilStarts (s.enterTripped f role) :=
  State.OneFeeder.starts ⟨s.enterTripped_others f role, by simp, by simp, by simp⟩ (s.enterTripped_calm f role)

theorem State.testFails_starts (s : State) (f : Feeder) (judgement : Cause) :
    s.CoilStarts (s.testFails f judgement) := by
  have counted (n : Nat) (detail : Int) : s.OneFeeder
      ((s.modFeeder f fun r => { r with attempts := n }).alarm .lineTestFail (.feeder f) (some judgement) detail) f :=
    ⟨State.otherFeedersKept_trans (s.otherFeedersKept_modFeeder f _) (State.alarm_others _ _ _ _ _ f), by simp,
      by simp, by simp⟩
  have calm (n : Nat) (detail : Int) : s.calm
      ((s.modFeeder f fun r => { r with attempts := n }).alarm .lineTestFail (.feeder f) (some judgement) detail) f :=
    State.calm_of_feeder ((State.alarm_feeder _ _ _ _ _ f).trans (s.modFeeder_feeder_self f _)) ⟨rfl, rfl, id, id⟩
  simp only [State.testFails]
  split
  · exact (s.enterOpen_starts f _).trans_steps (State.alarm_same _ _ _ _ _).coilSteps
  · exact State.coilStarts_ite
      (fun _ => .after_calm (counted _ _) (calm _ _) (State.enterLockout_starts _ f))
      (fun _ => .after_calm (counted _ _) (calm _ _) (State.enterTripped_starts _ f _))

theorem State.endTest_oneFeeder (s : State) (f : Feeder) : s.OneFeeder (s.endTest f) f :=
  ⟨s.endTest_others f, by simp, by simp, by simp⟩

theorem State.endTest_calm (s : State) (f : Feeder) : s.calm (s.endTest f) f :=
  State.calm_of_feeder (s.endTest_feeder f) ⟨rfl, rfl, id, id⟩

theorem State.stageEnds_starts (s : State) (f : Feeder) (stage : Stage) : s.CoilStarts (s.stageEnds f stage) := by
  have ended {u : State} (k : (s.endTest f).CoilStarts u) : s.CoilStarts u :=
    .after_calm (s.endTest_oneFeeder f) (s.endTest_calm f) k
  cases stage
  case notice =>
    exact State.coilStarts_ite (fun _ => (s.inject_coilSteps f).starts) fun _ =>
      State.coilStarts_ite (fun _ => ended (State.reclose_starts _ f)) fun _ => ended (State.testFails_starts _ f _)
  case contactor => exact (s.setStage_coilSteps f _ _).starts
  case firstHalf => exact (s.setStage_coilSteps f _ _).starts
  case secondHalf =>
    exact State.coilStarts_ite (fun _ => ended (State.reclose_starts _ f)) fun _ => ended (State.testFails_starts _ f _)

/-! ### Receptions (R145, R147, R155) -/

theorem State.modPeer_coilSteps (s : State) (n : Byte) (g : PeerEntry → PeerEntry) : s.CoilSteps (s.modPeer n g) :=
  State.coilSteps_of_blocks

theorem State.judgeConfirmation_coilSteps (f : Feeder) (s : State) : s.CoilSteps (s.judgeConfirmation f) :=
  State.coilSteps_of_blocks

theorem State.judgeLoad_coilSteps (s : State) : s.CoilSteps s.judgeLoad := State.coilSteps_of_blocks

theorem State.judgeWake_coilSteps (s : State) : s.CoilSteps s.judgeWake := State.coilSteps_of_blocks

theorem State.peerChanged_coilSteps (s : State) (n : Byte) : s.CoilSteps (s.peerChanged n) := by
  have followers : s.CoilSteps (forFeeders (fun f s => if s.farIs f n then State.judgeFollower f s else s) s) :=
    State.forFeeders_coilSteps (fun f u =>
      State.coilSteps_ite (fun _ => u.judgeFollower_coilSteps f) (fun _ => .refl u)) s
  have rest (u : State) : u.CoilSteps
      (forFeeders (fun f s => if s.farIs f n then State.judgeConfirmation f s else s) u.judgeWake).judgeLoad := by
    refine u.judgeWake_coilSteps.trans (State.CoilSteps.trans ?_ (State.judgeLoad_coilSteps _))
    exact State.forFeeders_coilSteps (fun f v =>
      State.coilSteps_ite (fun _ => v.judgeConfirmation_coilSteps f) (fun _ => .refl v)) _
  exact followers.trans (rest _)

theorem State.takeStatus_coilSteps (s : State) (p : Port) (h : Header) (b : StatusBody) :
    s.CoilSteps (s.takeStatus p h b) := by
  have entered : s.CoilSteps (s.ensurePeer h.origin) := State.coilSteps_of_blocks
  have heard (g : PeerEntry → PeerEntry) := entered.trans (State.modPeer_coilSteps _ h.origin g)
  exact State.coilSteps_ite
    (fun _ => (heard _).trans ((State.modPeer_coilSteps _ h.origin _).trans (State.peerChanged_coilSteps _ _)))
    (fun _ => heard _)

theorem State.peerStale_coilSteps (s : State) (n : Byte) : s.CoilSteps (s.peerStale n) :=
  State.coilSteps_ite
    (fun _ => (s.modPeer_coilSteps n _).trans
      ((State.alarm_same _ _ _ _ _).coilSteps.trans (State.peerChanged_coilSteps _ _)))
    (fun _ => State.coilSteps_of_blocks)

/-- An INTERTRIP that finds a test ends it, and the feeder follows (R95). -/
theorem State.takeIntertrip_coilSteps (s : State) (f : Feeder) (origin : Byte) :
    s.CoilSteps (s.takeIntertrip f origin).1 := by
  unfold State.takeIntertrip
  split
  · exact s.tripStart_coilSteps f _ _
  · exact s.tripStart_coilSteps f _ _
  · next testing =>
    let u := (s.endTest f).modFeeder f fun r => { r with tripCause := some .remote }
    have ended : s.CoilSteps u := (s.endTest_coilSteps f).trans (State.modFeeder_coilSteps _ f rfl rfl rfl rfl rfl rfl)
    have state : (u.feeder f).state ≠ .closing := by simp [u, State.endTest_feeder, testing]
    exact ended.trans ((u.writeRecord_coilSteps f _ _ _).trans (State.enterTripped_coilSteps (by exact state) _))
  · exact .refl s

theorem State.noteIntertrip_coilSteps (s : State) (f : Feeder) : s.CoilSteps (s.noteIntertrip f) := by
  refine s.modProt_coilSteps f fun unpicked => ?_
  split <;> exact unpicked

theorem State.actIntertrip_coilSteps (s : State) (f : Feeder) (origin : Byte) (age : Nat) :
    s.CoilSteps (s.actIntertrip f origin age) := by
  have taken := s.takeIntertrip_coilSteps f origin
  refine State.coilSteps_ite (fun _ => s.noteIntertrip_coilSteps f) fun _ => ?_
  split
  · next found => simpa only [found] using taken
  · next found =>
    rw [found] at taken
    exact taken.trans (State.noteIntertrip_coilSteps _ f)

theorem State.receiveIntertrip_coilSteps (s : State) (h : Header) (b : IntertripBody) :
    s.CoilSteps (s.receiveIntertrip h b) := by
  refine State.coilSteps_ite (fun _ => ?_) fun _ => .refl s
  split
  · exact s.actIntertrip_coilSteps _ _ _
  · exact (State.alarm_same _ _ _ _ _).coilSteps

/-! ### Commands (R97 to R101) -/

theorem State.commandOpen_coilSteps (s : State) (f : Feeder) : s.CoilSteps (s.commandOpen f).1 := by
  unfold State.commandOpen
  split
  · split
    · exact s.tripStart_coilSteps f _ _
    · exact s.tripStart_coilSteps f _ _
    · next testing =>
      exact (s.endTest_coilSteps f).trans
        (State.enterOpen_coilSteps (by rw [State.endTest_state, testing]; nofun) 0)
    · next tripped => exact State.enterOpen_coilSteps (by rw [tripped]; nofun) 0
    · next lockout => exact State.enterOpen_coilSteps (by rw [lockout]; nofun) 0
    · exact .refl s
  · exact .refl s

theorem State.commandClose_coilSteps (s : State) (f : Feeder) : s.CoilSteps (s.commandClose f).1 := by
  unfold State.commandClose
  split
  · split
    · next opened =>
      split
      · exact .refl s
      · have one (u : State) : u.OneFeeder (u.beginTest f) f := ⟨u.beginTest_others f, by simp, by simp, by simp⟩
        exact (s.modFeeder_coilSteps f rfl rfl rfl rfl rfl rfl).trans
          ((one _).coilSteps ((one _).calmStep (State.beginTest_calm _ f) (.inr (by simp [opened]))))
    · exact .refl s
  · exact .refl s

theorem State.blockTripped_coilSteps (s : State) (f : Feeder) : s.CoilSteps (s.blockTripped f) :=
  State.coilSteps_ite (fun ⟨tripped, _⟩ => State.enterLockout_coilSteps (by rw [tripped]; nofun)) (fun _ => .refl s)

theorem State.commandBlock_coilSteps (s : State) (f : Feeder) : s.CoilSteps (s.commandBlock f).1 := by
  unfold State.commandBlock
  split
  · exact (s.modFeeder_coilSteps f rfl rfl rfl rfl rfl rfl).trans (State.blockTripped_coilSteps _ f)
  · exact .refl s

theorem State.commandUnblock_coilSteps (s : State) (f : Feeder) : s.CoilSteps (s.commandUnblock f).1 := by
  unfold State.commandUnblock
  split
  · exact s.modFeeder_coilSteps f (h := fun r => { r with blocked := false }) rfl rfl rfl rfl rfl rfl
  · exact .refl s

theorem State.commandReset_coilSteps (s : State) (f : Feeder) : s.CoilSteps (s.commandReset f).1 := by
  unfold State.commandReset
  split
  · split
    · next lockout => exact State.enterOpen_coilSteps (by rw [lockout]; nofun) 0
    · next failed =>
      split
      · next complete => exact State.clearFailed_coilSteps complete failed
      · exact .refl s
    · exact .refl s
  · exact .refl s

theorem State.forFeeder_coilSteps {s : State} {act : State → Feeder → State × CommandResult}
    (h : ∀ f, s.CoilSteps (act s f).1) (number : Byte) : s.CoilSteps (s.forFeeder number act).1 := by
  unfold State.forFeeder
  split
  · exact h _
  · exact .refl s

/-- Change flags are not levels (R178). -/
theorem State.cleared_doorActive (s : State) (mask : Word16) :
    ({ s with im := InputMonitor.cleared s.im mask } : State).doorActive = s.doorActive := by
  simp [State.doorActive, State.input, State.role, InputMonitor.cleared]

theorem State.perform_coilSteps (s : State) (k : Command) (b : CommandBody) : s.CoilSteps (s.perform k b).1 := by
  cases k
  case openFeeder => exact State.forFeeder_coilSteps s.commandOpen_coilSteps _
  case closeFeeder => exact State.forFeeder_coilSteps s.commandClose_coilSteps _
  case blockReclose => exact State.forFeeder_coilSteps s.commandBlock_coilSteps _
  case unblockReclose => exact State.forFeeder_coilSteps s.commandUnblock_coilSteps _
  case resetFeeder => exact State.forFeeder_coilSteps s.commandReset_coilSteps _
  case clearInputFlags => exact State.FeedersStand.coilSteps ⟨rfl, rfl, rfl, rfl, s.cleared_doorActive b.arg⟩
  case restart => exact .refl s
  all_goals
    unfold State.perform
    exact State.coilSteps_of_blocks

theorem State.restartTimer_coilSteps (s : State) (t : Timer) :
    s.CoilSteps { s with cl := { s.cl with restartTimer := t } } :=
  State.FeedersStand.coilSteps ⟨rfl, rfl, rfl, rfl, State.doorActive_of_blocks rfl rfl⟩

theorem State.takeRestart_coilSteps (s : State) (origin code : Byte) : s.CoilSteps (s.takeRestart origin code) := by
  have sent (b : Payload) (c : Scope) (mark : Bool) : s.CoilSteps
      ((s.setResult origin code .done).originateWith State.announce b c (fun _ => true) mark) :=
    State.CoilSteps.trans State.coilSteps_of_blocks (State.originateWith_same announce_reporting _ _ _ _ _).coilSteps
  dsimp only [State.takeRestart]
  split
  · exact (sent _ _ _).trans (State.restartTimer_coilSteps _ _)
  · exact sent _ _ _

theorem State.setResult_coilSteps (s : State) (origin code : Byte) (r : CommandResult) :
    s.CoilSteps (s.setResult origin code r) := State.coilSteps_of_blocks

theorem State.judgeCommand_coilSteps (s : State) (origin : Byte) (b : CommandBody) :
    s.CoilSteps (s.judgeCommand origin b) := by
  unfold State.judgeCommand
  split
  · exact s.setResult_coilSteps _ _ _
  · exact s.takeRestart_coilSteps _ _
  · exact State.coilSteps_ite (fun _ => s.setResult_coilSteps _ _ _) fun _ =>
      State.coilSteps_ite (fun _ => s.setResult_coilSteps _ _ _) fun _ =>
        (s.perform_coilSteps _ b).trans (State.setResult_coilSteps _ _ _ _)

theorem State.takeCommand_coilSteps (s : State) (h : Header) (b : CommandBody) : s.CoilSteps (s.takeCommand h b) :=
  State.coilSteps_ite
    (fun _ => State.coilSteps_ite (fun _ => s.judgeCommand_coilSteps _ b)
      (fun _ => (State.alarm_same _ _ _ _ _).coilSteps))
    (fun _ => .refl s)

/-! ### Frames (R125, R135 to R138) -/

theorem State.handOn_coilSteps (s : State) (p : Port) (f : Frame) : s.CoilSteps (s.handOn p f) := by
  unfold State.handOn
  split
  · exact s.takeCommand_coilSteps _ _
  · exact .refl s
  · exact State.coilSteps_ite (fun _ => .refl s) (fun _ => s.takeStatus_coilSteps p _ _)
  · exact State.coilSteps_ite (fun _ => .refl s) (fun _ => s.receiveIntertrip_coilSteps _ _)
  · exact State.coilSteps_ite (fun _ => .refl s) (fun _ => s.takeNotice_coilSteps _ _)
  · exact State.coilSteps_ite (fun _ => .refl s) (fun _ => State.coilSteps_of_blocks)

theorem State.processFrame_coilSteps (s : State) (p : Port) (f : Frame) : s.CoilSteps (s.processFrame p f) :=
  State.coilSteps_ite (fun _ => .refl s)
    (fun _ => (s.handOn_coilSteps p f).trans (State.forward_same _ p f).coilSteps)

theorem State.receiveGood_coilSteps (s : State) (p : Port) (f : Frame) : s.CoilSteps (s.receiveGood p f) := by
  have heard : s.CoilSteps (s.portHears p) := State.coilSteps_of_blocks
  have seen (l : List (Byte × Byte)) : (s.portHears p).CoilSteps
      { s.portHears p with pp := { (s.portHears p).pp with seen := l } } := State.coilSteps_of_blocks
  dsimp only [State.receiveGood]
  split
  · split
    · exact heard
    · exact heard.trans ((seen _).trans (State.processFrame_coilSteps _ p f))
  · exact heard.trans (State.processFrame_coilSteps _ p f)

theorem State.receiveFrame_coilSteps (s : State) (p : Port) (f : Frame) : s.CoilSteps (s.receiveFrame p f) :=
  State.coilSteps_ite
    (fun _ => State.coilSteps_ite (fun _ => s.receiveGood_coilSteps p f) (fun _ => State.coilSteps_of_blocks))
    (fun _ => .refl s)

theorem State.receiveBytes_coilSteps (s : State) (p : Port) (bytes : List Byte) :
    s.CoilSteps (s.receiveBytes p bytes) := by
  refine State.coilSteps_ite (fun _ => ?_) (fun _ => .refl s)
  split
  · exact .refl s
  · exact State.coilSteps_of_blocks
  · exact s.receiveGood_coilSteps p _

/-! ### Roles, and start-up (R80, R82, R180) -/

theorem State.putCause_coilSteps (s : State) (m : BlockCause) (b : Bool) (g : Group) :
    s.CoilSteps (s.putCause m b g) := State.coilSteps_of_blocks

theorem State.roleEffects_coilSteps (s : State) : s.CoilSteps s.roleEffects := by
  have holds := State.forFeeders_coilSteps (fun f u => u.setHold_coilSteps f .interlock (u.interlocked f)) s
  have causes (u : State) := State.forGroups_coilSteps (fun g v => v.putCause_coilSteps .input (v.inputBlocked g) g) u
  exact holds.trans (causes _)

theorem State.adopt_others (f : Feeder) (s : State) : s.otherFeedersKept (s.adopt f) f := by
  simp only [State.adopt]
  split
  · exact State.otherFeedersKept_trans (s.otherFeedersKept_modFeeder f _) (State.setState_others _ f _)
  · exact s.otherFeedersKept_refl f

theorem State.adopt_calm (f : Feeder) (s : State) : s.calm (s.adopt f) f := by
  simp only [State.adopt]
  split
  · exact State.calm_of_feeder (State.setState_feeder_self _ f _) (by simp only [State.modFeeder_feeder_self]
                                                                      exact ⟨rfl, rfl, id, id⟩)
  · exact .refl _

/-- Adopting the contacts drives no close coil and releases no trip coil (R80). -/
theorem State.CoilStarts.after_adopt {s t : State} (k : (forFeeders State.adopt s).CoilStarts t) : s.CoilStarts t := by
  have adopt {f : Feeder} {u v : State} (k : (u.adopt f).CoilStarts v) : u.CoilStarts v :=
    .after_calm ⟨u.adopt_others f, by simp, by simp, by simp⟩ (u.adopt_calm f) k
  exact adopt (adopt (adopt (adopt k)))

theorem State.tripFound_coilSteps (f : Feeder) (s : State) : s.CoilSteps (s.tripFound f) :=
  State.coilSteps_ite (fun _ => s.tripStart_coilSteps f _ _) (fun _ => .refl s)

/-- The station's mode and its read timer at the entry into CONFIG FAULT (R186). -/
def State.inFault (s : State) : State := { s with cl := { s.cl with mode := .configFault, readTimer := none } }

theorem State.enterConfigFault_starts (s : State) : s.inFault.CoilStarts s.enterConfigFault :=
  .after_adopt (State.forFeeders_coilSteps State.tripFound_coilSteps _).starts

theorem State.enablePort_coilSteps (p : Port) (s : State) : s.CoilSteps (s.enablePort p) :=
  State.coilSteps_of_blocks (fs := rfl) rfl rfl rfl rfl

theorem State.startStatusTimer_coilSteps (s : State) : s.CoilSteps s.startStatusTimer :=
  State.coilSteps_of_blocks (fs := rfl) rfl rfl rfl rfl

theorem State.badImage_starts (s : State) : s.inFault.CoilStarts s.badImage :=
  s.enterConfigFault_starts.trans_steps <|
    ((State.enablePort_coilSteps 0 _).trans (State.enablePort_coilSteps 1 _)).trans
      (State.startStatusTimer_coilSteps _)

end Sys2Proof.Machine
end

section
/-! PROOF. The coils through every command that reads no accepted image and cannot reset the part. -/

namespace Sys2Proof.Machine

/-! ### What a command takes before its steps -/

/-- The coils of every feeder are as they were. -/
structure State.SameCoils (s t : State) : Prop where
  tripCoil : ∀ f, (t.feeder f).tripCoil = (s.feeder f).tripCoil
  closeCoil : ∀ f, (t.feeder f).closeCoil = (s.feeder f).closeCoil

theorem State.sameCoils_of_fs {s t : State} (fs : t.fs = s.fs) : s.SameCoils t :=
  ⟨fun f => by rw [State.feeder_of_fs fs], fun f => by rw [State.feeder_of_fs fs]⟩

/-- A command takes a sample, a level or a setting, which touches no coil, and goes on by steps that keep the coils. -/
def State.CoilsReach (s t : State) : Prop := ∃ u, s.SameCoils u ∧ u.CoilStarts t

theorem State.CoilStarts.reach {s t : State} (h : s.CoilStarts t) : s.CoilsReach t :=
  ⟨s, State.sameCoils_of_fs rfl, h⟩

theorem State.CoilSteps.reach {s t : State} (h : s.CoilSteps t) : s.CoilsReach t := h.starts.reach

theorem State.coilsReach_ite {s a b : State} {p : Prop} [Decidable p] (yes : p → s.CoilsReach a)
    (no : ¬p → s.CoilsReach b) : s.CoilsReach (if p then a else b) := by
  split
  · exact yes ‹p›
  · exact no ‹¬p›

/-- A timer's row acts when it is due, and is passed over otherwise (log 2). -/
theorem State.coilsReach_due {s a : State} {p : Prop} [Decidable p] (acts : p → s.CoilsReach a) :
    s.CoilsReach (if p then a else s) :=
  State.coilsReach_ite acts fun _ => (State.CoilSteps.refl s).reach

theorem State.CoilsReach.of_run {s t v : State}
    (run : (.next v : Host.Outcome State Fault Refusal) = .next t) (h : s.CoilsReach v) : s.CoilsReach t := by
  cases run
  exact h

/-- A released trip coil has been released in a complete trip, which is complete still. -/
theorem State.TripHeld.ended {s t : State} {f : Feeder} (h : s.TripHeld t f) (driven : (s.feeder f).tripCoil = true)
    (released : (t.feeder f).tripCoil = false) : (t.feeder f).contact = false ∧ t.currentOut f = true := by
  have complete : s.tripComplete f = true := (h.coil driven).resolve_left (by simp [released])
  simp only [State.tripComplete, Bool.and_eq_true, Bool.not_eq_true'] at complete
  exact ⟨h.contact.trans complete.1, h.out.trans complete.2⟩

theorem State.CoilsReach.tripEnded {s t : State} {f : Feeder} (h : s.CoilsReach t)
    (driven : (s.feeder f).tripCoil = true) (released : (t.feeder f).tripCoil = false) :
    (t.feeder f).contact = false ∧ t.currentOut f = true := by
  obtain ⟨u, same, starts⟩ := h
  exact (starts f).held.ended ((same.tripCoil f).trans driven) released

theorem State.CoilsReach.closeSafe {s t : State} {f : Feeder} (h : s.CoilsReach t)
    (released : (s.feeder f).closeCoil = false) : t.CloseSafe f := by
  obtain ⟨u, same, starts⟩ := h
  exact (starts f).close ((same.closeCoil f).trans released)

/-! ### Lanes, contacts, inputs and receptions -/

theorem State.arrive_reach (s : State) (l : Lane) (raw : Word16) : s.CoilsReach (s.arrive l raw) :=
  ⟨(s.takeArrival l raw).derive l (validCode raw), State.sameCoils_of_fs (by simp),
    ((State.handHealth_coilSteps _ _ _ _).trans (State.notice_coilSteps _ _ _ _)).starts⟩

theorem State.fallSilent_reach (s : State) (l : Lane) : s.CoilsReach (s.fallSilent l) :=
  ⟨(s.silenced l).silenceDerived l (s.lane l).health, State.sameCoils_of_fs (by simp [State.silenced]),
    (State.handHealth_coilSteps _ _ _ _).starts⟩

theorem State.levelTaken_sameCoils (s : State) (f : Feeder) : s.SameCoils (s.levelTaken f) := by
  constructor <;> intro f' <;> by_cases same : f' = f
  · subst same; simp
  · rw [State.levelTaken, State.modFeeder_feeder_ne _ _ same]
  · subst same; simp
  · rw [State.levelTaken, State.modFeeder_feeder_ne _ _ same]

theorem State.debounceContact_reach (s : State) (f : Feeder) : s.CoilsReach (s.debounceContact f) := by
  by_cases none_ : s.pins.contacts[f] = (s.feeder f).contact ∨ s.feederEnabled f = false
  · rw [State.debounceContact_none none_]
    exact ⟨_, s.levelTaken_sameCoils f, (State.CoilSteps.refl _).starts⟩
  · obtain ⟨edge, enabled⟩ := not_or.mp none_
    rw [State.debounceContact_edge edge (by simpa using enabled)]
    exact ⟨_, s.levelTaken_sameCoils f, ((s.levelTaken f).contactEdge_coilSteps f).starts⟩

theorem State.contactRaw_reach (s : State) (f : Feeder) (closed : Bool) (timer : Timer) :
    s.CoilsReach (State.modFeeder { s with pins := { s.pins with contacts := s.pins.contacts.set f closed } } f
      fun r => { r with contactTimer := timer }) := by
  refine ⟨_, ⟨fun f' => ?_, fun f' => ?_⟩, (State.CoilSteps.refl _).starts⟩ <;> by_cases same : f' = f
  · subst same; rw [State.modFeeder_feeder_self]; rfl
  · rw [State.modFeeder_feeder_ne _ _ same]; rfl
  · subst same; rw [State.modFeeder_feeder_self]; rfl
  · rw [State.modFeeder_feeder_ne _ _ same]; rfl

theorem State.inputEdge_reach (s : State) (i : Input) (active : Bool) : s.CoilsReach (s.inputEdge i active) := by
  let u := s.modInput i fun r => { r with active, changed := true }
  have roles : u.CoilSteps (if roleActs (u.inputSet i).role then u.roleEffects else u) :=
    State.coilSteps_ite (fun _ => u.roleEffects_coilSteps) (fun _ => .refl u)
  exact ⟨u, State.sameCoils_of_fs (by simp [u]), (roles.trans (State.raiseInput_same _ i active).coilSteps).starts⟩

theorem State.debounceInput_reach (s : State) (i : Input) : s.CoilsReach (s.debounceInput i) := by
  let u := s.modInput i fun r => { r with timer := none }
  have same : s.SameCoils u := State.sameCoils_of_fs (by simp [u])
  dsimp only [State.debounceInput]
  split
  · exact ⟨u, same, (State.CoilSteps.refl _).starts⟩
  · obtain ⟨v, coils, starts⟩ := u.inputEdge_reach i (s.rawLevel i)
    exact ⟨v, ⟨fun f => (coils.tripCoil f).trans (same.tripCoil f), fun f =>
      (coils.closeCoil f).trans (same.closeCoil f)⟩, starts⟩

theorem State.badImage_reach (s : State) : s.CoilsReach s.badImage :=
  ⟨s.inFault, State.sameCoils_of_fs rfl, s.badImage_starts⟩

theorem State.inputRaw_reach (s : State) (i : Input) (closed : Bool) (timer : InputRec → Timer) :
    s.CoilsReach (State.modInput { s with pins := { s.pins with inputs := s.pins.inputs.set i closed } } i
      fun r => { r with timer := timer r }) :=
  ⟨_, State.sameCoils_of_fs (by simp), (State.CoilSteps.refl _).starts⟩

/-! ### Rows that touch no feeder -/

theorem State.stepTick_coilSteps (s : State) : s.CoilSteps s.stepTick :=
  State.coilSteps_of_blocks

theorem State.watchEnds_coilSteps (s : State) (src : Source) : s.CoilSteps (s.watchEnds src) :=
  State.coilSteps_of_blocks

theorem State.seekEnds_coilSteps (s : State) : s.CoilSteps s.seekEnds :=
  State.coilSteps_of_blocks

theorem State.enterSeek_coilSteps (s : State) : s.CoilSteps s.enterSeek :=
  State.coilSteps_of_blocks

theorem State.fire_coilSteps (s : State) (g : Group) : s.CoilSteps (s.fire g) :=
  State.coilSteps_of_blocks

theorem State.endPulse_coilSteps (s : State) (g : Group) : s.CoilSteps (s.endPulse g) :=
  State.coilSteps_of_blocks

theorem State.wake_coilSteps (s : State) (w : Cause) : s.CoilSteps (s.wake w) :=
  State.coilSteps_of_blocks

theorem State.becomesBusy_coilSteps (s : State) (p : Port) : s.CoilSteps (s.becomesBusy p) :=
  State.coilSteps_of_blocks

theorem State.fallsIdle_coilSteps (s : State) (p : Port) : s.CoilSteps (s.fallsIdle p) :=
  State.coilSteps_of_blocks

theorem State.beginSend_coilSteps (s : State) (p : Port) : s.CoilSteps (s.beginSend p) :=
  State.coilSteps_of_blocks

theorem State.backoffEnds_coilSteps (s : State) (p : Port) : s.CoilSteps (s.backoffEnds p) :=
  State.coilSteps_of_blocks

theorem State.fallQuiet_coilSteps (s : State) (p : Port) : s.CoilSteps (s.fallQuiet p) :=
  State.coilSteps_of_blocks

theorem State.periodicStatus_coilSteps (s : State) : s.CoilSteps s.periodicStatus :=
  State.coilSteps_of_blocks

theorem State.dropListener_coilSteps (s : State) (n : Byte) : s.CoilSteps (s.dropListener n) :=
  State.coilSteps_of_blocks

theorem State.removePeer_coilSteps (s : State) (n : Byte) : s.CoilSteps (s.removePeer n) :=
  State.coilSteps_of_blocks

theorem State.locateEnds_coilSteps (s : State) (e : PeerEntry) : s.CoilSteps (s.locateEnds e) :=
  State.coilSteps_of_blocks

theorem State.repeatIntertrip_coilSteps (s : State) (f : Feeder) : s.CoilSteps (s.repeatIntertrip f) :=
  State.coilSteps_of_blocks

theorem State.confirmExpires_coilSteps (s : State) (f : Feeder) : s.CoilSteps (s.confirmExpires f) :=
  State.coilSteps_of_blocks

theorem State.dwellEnds_coilSteps (s : State) : s.CoilSteps s.dwellEnds :=
  State.coilSteps_of_blocks

theorem State.decayStep_coilSteps (s : State) : s.CoilSteps s.decayStep :=
  State.coilSteps_of_blocks

/-! ### The commands -/

/-- A command that reads no accepted image and cannot reset the part reaches its next state by steps that keep the
coils. -/
theorem exec_coilsReach {c : Instr} {s t : State} (run : exec c s = .next t) (plain : mayReset c = false)
    (noImage : ∀ image, c ≠ .imageReadComplete image) : s.CoilsReach t := by
  cases c
  case reset => simp [mayReset] at plain
  case restart => simp [mayReset] at plain
  case restartTimerExpiry => simp [mayReset] at plain
  case frameSent => simp [mayReset] at plain
  case collision => simp [mayReset] at plain
  case imageReadComplete image => exact absurd rfl (noImage image)
  case imageReadTimeout => exact .of_run run (State.coilsReach_due fun _ => s.badImage_reach)
  case sampleArrival l raw => exact .of_run run (s.arrive_reach l raw)
  case silenceTimerExpiry l => exact .of_run run (State.coilsReach_due fun _ => s.fallSilent_reach l)
  case contactRawChange f closed => exact .of_run run (State.coilsReach_ite
    (fun _ => (State.CoilSteps.refl s).reach) fun _ => s.contactRaw_reach f closed _)
  case contactDebounceExpiry f => exact .of_run run (State.coilsReach_due fun _ => s.debounceContact_reach f)
  case inputDebounceExpiry i => exact .of_run run (State.coilsReach_due fun _ => s.debounceInput_reach i)
  case inputRawChange i closed => exact .of_run run (State.coilsReach_ite
    (fun _ => (State.CoilSteps.refl s).reach) fun _ => s.inputRaw_reach i closed _)
  case stepTimerExpiry => exact .of_run run (State.coilsReach_due fun _ => s.stepTick_coilSteps.reach)
  case crossingWatchExpiry src => exact .of_run run (State.coilsReach_due fun _ => (s.watchEnds_coilSteps src).reach)
  case seekTimerExpiry => exact .of_run run (State.coilsReach_due fun _ => s.seekEnds_coilSteps.reach)
  case holdoverTimerExpiry => exact .of_run run (State.coilsReach_due fun _ => s.enterSeek_coilSteps.reach)
  case retryTimerExpiry => exact .of_run run (State.coilsReach_due fun _ => s.enterSeek_coilSteps.reach)
  case firing g =>
    cases armed : (s.group g).armed <;> simp only [exec, execFiring, armed] at run
    · exact .of_run run (State.CoilSteps.refl s).reach
    · exact .of_run run (State.coilsReach_due fun _ => (s.fire_coilSteps g).reach)
  case pulseEnd g =>
    cases pulse : (s.group g).pulse <;> simp only [exec, execPulseEnd, pulse] at run
    · exact .of_run run (State.CoilSteps.refl s).reach
    · exact .of_run run (State.coilsReach_due fun _ => (s.endPulse_coilSteps g).reach)
  case wakeTimerExpiry => exact .of_run run (State.coilsReach_due fun _ => (s.wake_coilSteps _).reach)
  case lowvTimerExpiry f => exact .of_run run (State.coilsReach_due fun _ => (s.lowvDecides_coilSteps f).reach)
  case topenExpiry f =>
    exact .of_run run (State.coilsReach_due fun ⟨tripping, _⟩ => (State.topenEnds_coilSteps tripping).reach)
  case tcloseExpiry f => exact .of_run run (State.coilsReach_due fun _ => (s.failClose_coilSteps f 1).reach)
  case reclaimExpiry f =>
    exact .of_run run (State.coilsReach_due fun _ => (s.modFeeder_coilSteps f rfl rfl rfl rfl rfl rfl).reach)
  case deadTimeExpiry f => exact .of_run run (State.coilsReach_due fun _ => (s.deadEnds_starts f).reach)
  case noticeStageExpiry f =>
    cases test : (s.feeder f).test <;> simp only [exec, execNoticeStageExpiry, test] at run
    · exact .of_run run (State.CoilSteps.refl s).reach
    · exact .of_run run (State.coilsReach_due fun _ => (s.stageEnds_starts f _).reach)
  case contactorStageExpiry f =>
    cases test : (s.feeder f).test <;> simp only [exec, execContactorStageExpiry, test] at run
    · exact .of_run run (State.CoilSteps.refl s).reach
    · exact .of_run run (State.coilsReach_due fun _ => (s.stageEnds_starts f _).reach)
  case firstHalfExpiry f =>
    cases test : (s.feeder f).test <;> simp only [exec, execFirstHalfExpiry, test] at run
    · exact .of_run run (State.CoilSteps.refl s).reach
    · exact .of_run run (State.coilsReach_due fun _ => (s.stageEnds_starts f _).reach)
  case secondHalfExpiry f =>
    cases test : (s.feeder f).test <;> simp only [exec, execSecondHalfExpiry, test] at run
    · exact .of_run run (State.CoilSteps.refl s).reach
    · exact .of_run run (State.coilsReach_due fun _ => (s.stageEnds_starts f _).reach)
  case liveTimerExpiry f =>
    cases live : (s.feeder f).live <;> simp only [exec, execLiveTimerExpiry, live] at run
    case running => exact .of_run run (State.coilsReach_due fun _ => (s.liveElapses_coilSteps f).reach)
    all_goals exact .of_run run (State.CoilSteps.refl s).reach
  case followTimerExpiry f => exact .of_run run (State.coilsReach_due fun _ => (s.followEnds_coilSteps f).reach)
  case peerNoticeExpiry f =>
    cases notice : (s.feeder f).notice <;> simp only [exec, execPeerNoticeExpiry, notice] at run
    · exact .of_run run (State.CoilSteps.refl s).reach
    · exact .of_run run (State.coilsReach_due fun _ => (s.setNotice_coilSteps f none).reach)
  case segmentBusy p => exact .of_run run (s.becomesBusy_coilSteps p).reach
  case segmentIdle p => exact .of_run run (s.fallsIdle_coilSteps p).reach
  case gapTimerExpiry p => exact .of_run run (State.coilsReach_due fun _ => (s.beginSend_coilSteps p).reach)
  case backoffTimerExpiry p => exact .of_run run (State.coilsReach_due fun _ => (s.backoffEnds_coilSteps p).reach)
  case quietTimerExpiry p => exact .of_run run (State.coilsReach_due fun _ => (s.fallQuiet_coilSteps p).reach)
  case statusTimerExpiry => exact .of_run run (State.coilsReach_due fun _ => s.periodicStatus_coilSteps.reach)
  case listenerExpiry n => exact .of_run run (State.coilsReach_due fun _ => (s.dropListener_coilSteps n).reach)
  case fragment p bytes => exact .of_run run (s.receiveBytes_coilSteps p bytes).reach
  case badReception p bytes => exact .of_run run (s.receiveBytes_coilSteps p bytes).reach
  case statusReceived p h b => exact .of_run run (s.receiveFrame_coilSteps p _).reach
  case intertripReceived p h b => exact .of_run run (s.receiveFrame_coilSteps p _).reach
  case testNoticeReceived p h b => exact .of_run run (s.receiveFrame_coilSteps p _).reach
  case locateReceived p h b => exact .of_run run (s.receiveFrame_coilSteps p _).reach
  case reportReceived p h b => exact .of_run run (s.receiveFrame_coilSteps p _).reach
  case staleTimerExpiry n =>
    cases peer : s.peer n <;> simp only [exec, execStaleTimerExpiry, peer] at run
    · exact .of_run run (State.CoilSteps.refl s).reach
    · exact .of_run run (State.coilsReach_due fun _ => (s.peerStale_coilSteps n).reach)
  case removalTimerExpiry n =>
    cases peer : s.peer n <;> simp only [exec, execRemovalTimerExpiry, peer] at run
    · exact .of_run run (State.CoilSteps.refl s).reach
    · exact .of_run run (State.coilsReach_due fun _ => (s.removePeer_coilSteps n).reach)
  case locateTimerExpiry n =>
    cases peer : s.peer n <;> simp only [exec, execLocateTimerExpiry, peer] at run
    · exact .of_run run (State.CoilSteps.refl s).reach
    · exact .of_run run (State.coilsReach_due fun _ => (s.locateEnds_coilSteps _).reach)
  case repeatTimerExpiry f => exact .of_run run (State.coilsReach_due fun _ => (s.repeatIntertrip_coilSteps f).reach)
  case confirmTimerExpiry f => exact .of_run run (State.coilsReach_due fun _ => (s.confirmExpires_coilSteps f).reach)
  case dwellTimerExpiry => exact .of_run run (State.coilsReach_due fun _ => s.dwellEnds_coilSteps.reach)
  case decayTimerExpiry => exact .of_run run (State.coilsReach_due fun _ => s.decayStep_coilSteps.reach)
  all_goals exact .of_run run (State.receiveFrame_coilSteps s _ _).reach

end Sys2Proof.Machine
end

section
/-! PROOF. The coils through start-up and resets, and the two statements about them: no command takes the drive off a trip
coil before its breaker has opened, and a close coil is driven only where nothing forbids the close. -/

namespace Sys2Proof.Machine

/-! ### An accepted image (R182, R185) -/

/-- The station holds the image's settings, with the levels at its inputs, and no role has acted yet. -/
def State.copyTaken (s : State) (n : Nat) (c : Settings) : State :=
  let s := s.countClamps n
  let s := { s with cl := { s.cl with settings := some c, readTimer := none } }
  let s := (s.timebaseTakes c.timebase).firingTakes c.rectifier
  State.inputLevels { s with sc := { s.sc with register := BitVec.ofNat 16 (s.cl.station.toNat * 257) } }

theorem State.copyTaken_fs (s : State) (n : Nat) (c : Settings) : (s.copyTaken n c).fs = s.fs := by
  show (s.countClamps n).fs = s.fs
  dsimp only [State.countClamps]
  split <;> simp

theorem State.startRunning_coilSteps (s : State) : s.CoilSteps s.startRunning := by
  have stale (lanes : List Lane) (u : State) : u.CoilSteps
      (lanes.foldl (fun s l => if s.laneFresh l then s else s.raiseStale l 3) u) := by
    induction lanes generalizing u with
    | nil => exact .refl u
    | cons l lanes ih =>
      exact (State.coilSteps_ite (fun _ => .refl u) fun _ => (u.raiseStale_same l 3).coilSteps).trans (ih _)
  have running : s.CoilSteps { s with cl := { s.cl with mode := .running } } :=
    State.FeedersStand.coilSteps ⟨rfl, rfl, rfl, rfl, State.doorActive_of_blocks rfl rfl⟩
  exact running.trans ((stale _ _).trans (State.forFeeders_coilSteps (fun f u => u.laneDecision_coilSteps f) _))

theorem State.enablePorts_coilSteps (s : State) : s.CoilSteps s.enablePorts :=
  have port (p : Port) (u : State) : u.CoilSteps (if u.settings.portEnabled[p] then State.enablePort p u else u) :=
    State.coilSteps_ite (fun _ => u.enablePort_coilSteps p) fun _ => .refl u
  (port 0 s).trans (port 1 _)

theorem State.startSeek_coilSteps (s : State) : s.CoilSteps s.startSeek := by
  unfold State.startSeek
  split
  · exact .refl s
  · exact State.coilSteps_of_blocks

theorem State.pinPeers_coilSteps (s : State) : s.CoilSteps s.pinPeers := State.coilSteps_of_blocks

theorem State.startUp_starts (s : State) : s.CoilStarts s.startUp :=
  .after_adopt <| State.CoilSteps.starts <|
    (State.pinPeers_coilSteps _).trans <| (State.startSeek_coilSteps _).trans <|
      (State.enablePorts_coilSteps _).trans <| (State.startStatusTimer_coilSteps _).trans <|
        (State.status_same _).coilSteps.trans (State.startRunning_coilSteps _)

/-- A feeder in OPEN stays there with its close coil as it was. -/
def State.OpenedStays (s t : State) (f : Feeder) : Prop :=
  (s.feeder f).state = .opened → (t.feeder f).state = .opened ∧ (t.feeder f).closeCoil = (s.feeder f).closeCoil

theorem State.OpenedStays.trans {s t u : State} {f : Feeder} (h : s.OpenedStays t f) (k : t.OpenedStays u f) :
    s.OpenedStays u f := fun opened =>
  have ⟨still, coil⟩ := h opened
  have ⟨last, lastCoil⟩ := k still
  ⟨last, lastCoil.trans coil⟩

theorem State.setHold_openedStays (s : State) (f : Feeder) (m : HoldReason) (b : Bool) (f' : Feeder) :
    s.OpenedStays (s.setHold f m b) f' := fun opened => by
  by_cases same : f' = f
  · subst same
    obtain ⟨holds, dead, feeder⟩ := State.setHold_unheld (s := s) (f := f') (by simp [FeederState.unheld, opened]) m b
    rw [feeder]
    exact ⟨opened, rfl⟩
  · rw [(s.setHold_others f m b f' same).1]
    exact ⟨opened, rfl⟩

theorem State.roleEffects_openedStays (s : State) (f : Feeder) : s.OpenedStays s.roleEffects f := by
  let u := forFeeders (fun f s => s.setHold f .interlock (s.interlocked f)) s
  have holds : s.OpenedStays u f :=
    (State.setHold_openedStays _ _ _ _ f).trans <| (State.setHold_openedStays _ _ _ _ f).trans <|
      (State.setHold_openedStays _ _ _ _ f).trans (State.setHold_openedStays _ _ _ _ f)
  have causes : s.roleEffects.feeder f = u.feeder f :=
    State.feeder_of_fs (by simp [State.roleEffects, forGroups, u]) f
  exact fun opened => by rw [causes]; exact holds opened

theorem State.acceptImage_eq (s : State) (image : List Byte) :
    s.acceptImage image = (s.copyTaken (clampCount image) (imageSettings image)).roleEffects.startUp := by
  unfold State.acceptImage State.handOver State.copyTaken
  rfl

/-- An accepted image releases no trip coil before its breaker has opened. -/
theorem State.acceptImage_tripHeld (s : State) (image : List Byte) (f : Feeder) :
    (s.copyTaken (clampCount image) (imageSettings image)).TripHeld (s.acceptImage image) f := by
  rw [s.acceptImage_eq]
  generalize s.copyTaken _ _ = u
  have roles := (u.roleEffects_coilSteps f).held
  have started := (u.roleEffects.startUp_starts f).held
  exact roles.trans started

/-- Start-up finds every feeder in OPEN, and drives no close coil that it may not. -/
theorem State.acceptImage_closeSafe {s : State} {f : Feeder} (opened : (s.feeder f).state = .opened)
    (released : (s.feeder f).closeCoil = false) (image : List Byte) : (s.acceptImage image).CloseSafe f := by
  let u := s.copyTaken (clampCount image) (imageSettings image)
  have feeder : u.feeder f = s.feeder f := State.feeder_of_fs (s.copyTaken_fs _ _) f
  have coil := (u.roleEffects_openedStays f ((congrArg FeederRec.state feeder).trans opened)).2
  rw [s.acceptImage_eq]
  exact (State.startUp_starts u.roleEffects f).close (coil.trans ((congrArg FeederRec.closeCoil feeder).trans released))

/-! ### Resets (R182, R186, R187) -/

/-- A reset releases every close coil, and drives none. -/
theorem State.resetBy_closeSafe (s : State) (straps : Byte) (f : Feeder) : (s.resetBy straps).CloseSafe f := by
  have released : ((s.clearedBy straps).feeder f).closeCoil = false := by
    simp [State.clearedBy, State.feeder, FeederRec.reset]
  simp only [State.resetBy]
  split
  · exact State.closeSafe_of_released released
  · exact ((s.clearedBy straps).enterConfigFault_starts f).close released

/-- Where a RESTART may take effect after steps that keep the coils, a close coil is driven only where allowed. -/
theorem State.CoilSteps.judgeRestart_closeSafe {s t : State} {f : Feeder} (h : s.CoilSteps t)
    (released : (s.feeder f).closeCoil = false) : t.judgeRestart.CloseSafe f := by
  unfold State.judgeRestart
  split
  · exact t.resetBy_closeSafe _ f
  · exact (h f).close (State.closeSafe_of_released released)

theorem State.sendEnds_coilSteps (s : State) (p : Port) : s.CoilSteps (s.sendEnds p) := State.coilSteps_of_blocks

theorem State.collide_coilSteps (s : State) (p : Port) : s.CoilSteps (s.collide p) := State.coilSteps_of_blocks

/-! ### Every command -/

/-- The rows that can reset the part leave no close coil driven that was released, but where it is allowed. -/
theorem exec_closeSafe_of_mayReset {c : Instr} {s t : State} {f : Feeder} (run : exec c s = .next t)
    (resets : mayReset c = true) (released : (s.feeder f).closeCoil = false) : t.CloseSafe f := by
  have stands : s.CloseSafe f := State.closeSafe_of_released released
  cases c
  case reset straps =>
    cases run
    exact s.resetBy_closeSafe straps f
  case restart c =>
    cases run
    exact (State.receiveFrame_coilSteps s _ _).judgeRestart_closeSafe released
  case restartTimerExpiry =>
    simp only [exec, execRestartTimerExpiry, Host.Outcome.next.injEq] at run
    subst run
    split
    · exact s.resetBy_closeSafe _ f
    · exact stands
  case frameSent p =>
    simp only [exec, execFrameSent, Host.Outcome.next.injEq] at run
    subst run
    split
    · exact (s.sendEnds_coilSteps p).judgeRestart_closeSafe released
    · exact stands
  case collision p =>
    simp only [exec, execCollision, Host.Outcome.next.injEq] at run
    subst run
    split
    · exact (s.collide_coilSteps p).judgeRestart_closeSafe released
    · exact stands
  all_goals simp [mayReset] at resets

/-- IMAGE_READ_COMPLETE finds an accepted image while the read is under way, or takes no settings. -/
theorem exec_imageReadComplete_cases {image : List Byte} {s t : State}
    (run : exec (.imageReadComplete image) s = .next t) :
    (s.cl.readTimer.isSome = true ∧ s.acceptImage image = t) ∨ s.CoilsReach t := by
  simp only [exec, execImageReadComplete, Host.Outcome.next.injEq] at run
  subst run
  have stands : s.CoilsReach s := (State.CoilSteps.refl s).reach
  by_cases reading : s.cl.readTimer.isSome = true
  · rw [if_pos reading]
    unfold State.takeImage
    split
    · exact .inr stands
    · exact .inr s.badImage_reach
    · exact .inl ⟨reading, rfl⟩
  · rw [if_neg reading]
    exact .inr stands

/-- Settles O28: every command but those that can reset the part reaches its next state by steps that keep a trip coil
driven until its trip is complete. -/
theorem tripCoilHeldUntilOpen : Obligations.TripCoilHeldUntilOpen := by
  intro c s t f run driven released plain
  by_cases noImage : ∀ image, c ≠ .imageReadComplete image
  · exact (exec_coilsReach run plain noImage).tripEnded driven released
  obtain ⟨image, rfl⟩ := not_forall_not.mp noImage
  obtain ⟨-, rfl⟩ | reach := exec_imageReadComplete_cases run
  · exact (s.acceptImage_tripHeld image f).ended
      ((State.sameCoils_of_fs (s.copyTaken_fs _ _)).tripCoil f |>.trans driven) released
  · exact reach.tripEnded driven released

/-- Settles O29: every command reaches its next state by steps that drive a close coil only where nothing forbids it; the
rows that can reset the part release every close coil, and an image finds every feeder in OPEN. -/
theorem closeCoilDrivenOnlyWhenAllowed : Obligations.CloseCoilDrivenOnlyWhenAllowed := by
  intro c s t f ok run released driven
  have safe : t.CloseSafe f := by
    by_cases plain : mayReset c = false
    · by_cases noImage : ∀ image, c ≠ .imageReadComplete image
      · exact (exec_coilsReach run plain noImage).closeSafe released
      obtain ⟨image, rfl⟩ := not_forall_not.mp noImage
      obtain ⟨reading, rfl⟩ | reach := exec_imageReadComplete_cases run
      · exact State.acceptImage_closeSafe ((ok.feeders f).starting (ok.loader.reading reading)) released image
      · exact reach.closeSafe released
    · exact exec_closeSafe_of_mayReset run (by simpa using plain) released
  obtain ⟨state, interlock, door, picked⟩ := safe driven
  exact ⟨state, interlock, door, picked⟩

end Sys2Proof.Machine
end

section
/-! PROOF. The levels at the pins: a contact, an input and a segment (R81, R126, R175, R176). -/

namespace Sys2Proof.Machine

theorem exec_contactRawChange_levels (f : Feeder) (closed : Bool) (s : State) :
    ∃ t, exec (.contactRawChange f closed) s = .next t ∧ (s.pins.contacts[f] = closed → t = s) ∧
      (s.pins.contacts[f] ≠ closed →
        t.pins = { s.pins with contacts := s.pins.contacts.set f closed } ∧
        t.feeder f = { s.feeder f with contactTimer := some (s.clock + 5000) } ∧
        (∀ f', f' ≠ f → t.feeder f' = s.feeder f') ∧ t = { s with pins := t.pins, fs := t.fs }) := by
  let level : State := { s with pins := { s.pins with contacts := s.pins.contacts.set f closed } }
  by_cases stands : s.pins.contacts[f] = closed
  · exact ⟨s, by simp only [exec, execContactRawChange, if_pos stands], fun _ => rfl, fun h => absurd stands h⟩
  · exact ⟨level.modFeeder f fun r => { r with contactTimer := s.after (5 * msec) },
      by simp only [exec, execContactRawChange, if_neg stands, level], fun h => absurd h stands,
      fun _ => ⟨rfl, level.modFeeder_feeder_self f _, fun _ ne => level.modFeeder_feeder_ne _ ne, rfl⟩⟩

theorem exec_inputRawChange_levels (i : Input) (closed : Bool) (s : State) :
    ∃ t, exec (.inputRawChange i closed) s = .next t ∧ (s.pins.inputs[i] = closed → t = s) ∧
      (s.pins.inputs[i] ≠ closed →
        t.pins = { s.pins with inputs := s.pins.inputs.set i closed } ∧
        (s.cl.settings.isSome →
          t.input i = { s.input i with timer := some (s.clock + (s.inputSet i).debounce * 1000) }) ∧
        (s.cl.settings = none → t.input i = s.input i) ∧
        (∀ i', i' ≠ i → t.input i' = s.input i') ∧ t = { s with pins := t.pins, im := t.im }) := by
  let level : State := { s with pins := { s.pins with inputs := s.pins.inputs.set i closed } }
  let timed (r : InputRec) : InputRec :=
    { r with timer := if s.handedOver then s.after ((s.inputSet i).debounce * msec) else r.timer }
  by_cases stands : s.pins.inputs[i] = closed
  · exact ⟨s, by simp only [exec, execInputRawChange, if_pos stands], fun _ => rfl, fun h => absurd stands h⟩
  · refine ⟨level.modInput i timed, by simp only [exec, execInputRawChange, if_neg stands, level, timed],
      fun h => absurd h stands, fun _ => ⟨rfl, fun held => ?_, fun none_ => ?_,
        fun _ ne => level.modInput_input_ne _ ne, rfl⟩⟩
    · rw [State.modInput_input_self]
      simp only [timed, State.handedOver, held, if_true]
      rfl
    · rw [State.modInput_input_self]
      simp only [timed, State.handedOver, none_]
      rfl

theorem exec_segmentBusy_levels (p : Port) (s : State) :
    ∃ t, exec (.segmentBusy p) s = .next t ∧ t.pins = { s.pins with busy := s.pins.busy.set p true } ∧
      t.port p = (if (s.port p).tx = .gap then { s.port p with tx := .defer, gapTimer := none } else s.port p) ∧
      t.port (other p) = s.port (other p) ∧
      t = { s with pins := t.pins, pp := { s.pp with ports := t.pp.ports } } :=
  ⟨s.becomesBusy p, rfl, rfl, (s.setBusy p true).modPort_port_self p _,
    (s.setBusy p true).modPort_port_ne _ (other_ne p), rfl⟩

/-- On an idle segment a port with a frame in hand enters GAP with the full gap of its class (R126). -/
theorem State.access_of_idle {s : State} {p : Port} (idle : s.pins.busy[p] = false) (c : FrameClass) (r : PortRec) :
    s.access p c r = { r with
      hand := some c, tx := .gap, gapTimer := s.after (s.gap c), backoffTimer := none, sendEnd := none,
      line := [] } := by
  simp [State.access, idle]

/-- What the end of a busy segment makes of a port's record: a port waiting in DEFER enters GAP, and any port hears
again. -/
theorem State.fallsIdle_port_cases (s : State) (p : Port) :
    (∃ c, (s.port p).tx = .defer ∧ (s.port p).hand = some c ∧
      (s.fallsIdle p).port p = { s.port p with
        deaf := false, hand := some c, tx := .gap, gapTimer := some (s.clock + s.gap c), backoffTimer := none,
        sendEnd := none, line := [] }) ∨
    (((s.port p).tx = .defer → (s.port p).hand = none) ∧
      (s.fallsIdle p).port p = { s.port p with deaf := false }) := by
  have idle : (s.setBusy p false).pins.busy[p] = false := by simp [State.setBusy]
  simp only [State.fallsIdle, State.modPort_port_self]
  rw [show (s.setBusy p false).port p = s.port p from rfl]
  split
  · next c defer hand => exact .inl ⟨c, defer, hand, State.access_of_idle idle c _⟩
  · next other => exact .inr ⟨fun defer => Option.eq_none_iff_forall_ne_some.mpr (other · defer), rfl⟩

theorem exec_segmentIdle_levels (p : Port) (s : State) :
    ∃ t, exec (.segmentIdle p) s = .next t ∧ t.pins = { s.pins with busy := s.pins.busy.set p false } ∧
      ((s.port p).tx = .defer → (s.port p).hand = some .urgent →
        (t.port p).tx = .gap ∧ (t.port p).gapTimer = some (s.clock + 40)) ∧
      ((s.port p).tx = .defer → (s.port p).hand = some .routine →
        (t.port p).tx = .gap ∧ (t.port p).gapTimer = some (s.clock + (80 + s.cl.station.toNat % 16 * 10))) ∧
      ((s.port p).tx ≠ .defer → t.port p = { s.port p with deaf := false }) ∧
      (t.port p).hand = (s.port p).hand ∧ (t.port p).urgent = (s.port p).urgent ∧
      (t.port p).routine = (s.port p).routine ∧ (t.port p).attempts = (s.port p).attempts ∧
      t.port (other p) = s.port (other p) ∧
      t = { s with pins := t.pins, pp := { s.pp with ports := t.pp.ports } } := by
  have others : (s.fallsIdle p).port (other p) = s.port (other p) :=
    (s.setBusy p false).modPort_port_ne _ (other_ne p)
  refine ⟨s.fallsIdle p, rfl, rfl, ?_⟩
  obtain ⟨c, defer, hand, port⟩ | ⟨noHand, port⟩ := s.fallsIdle_port_cases p <;> rw [port]
  · refine ⟨fun _ urgent => ?_, fun _ routine => ?_, fun no => absurd defer no, hand.symm, rfl, rfl, rfl, others, rfl⟩
    · obtain rfl : c = .urgent := by simpa [hand] using urgent
      exact ⟨rfl, rfl⟩
    · obtain rfl : c = .routine := by simpa [hand] using routine
      exact ⟨rfl, rfl⟩
  · exact ⟨fun defer urgent => by simp [noHand defer] at urgent, fun defer routine => by simp [noHand defer] at routine,
      fun _ => rfl, rfl, rfl, rfl, rfl, others, rfl⟩

/-- Settles O53, a row at a time. -/
theorem levelsChange : Obligations.LevelsChange :=
  ⟨exec_contactRawChange_levels, exec_inputRawChange_levels, exec_segmentBusy_levels, exec_segmentIdle_levels⟩

end Sys2Proof.Machine
end

section
/-! PROOF. The body of a STATUS (R102, R142, R143, R164) and the codes of section 7.8. -/

namespace Sys2Proof.Machine

/-! ### Flags in a word -/

theorem bit_succ (b : Bool) (place : Nat) : bit b (place + 1) = 2 * bit b place := by
  cases b <;> simp [bit, Nat.pow_succ, Nat.mul_comm]

/-- Flags that are added, one at each place, are the bits of the sum. -/
theorem sum_bits {n : Nat} (b : Fin n → Bool) :
    ((List.finRange n).map fun i => bit (b i) i.val).sum = Nat.ofBits b := by
  induction n with
  | zero => simp
  | succ n ih =>
    have shifted : ((List.finRange n).map fun i => bit (b i.succ) (i.val + 1)).sum = 2 * Nat.ofBits (b ∘ Fin.succ) := by
      simp only [bit_succ, List.sum_map_mul_left, ← ih, Function.comp]
    have lowest : bit (b 0) 0 = (b 0).toNat := by cases b 0 <;> rfl
    simp only [List.finRange_succ, List.map_cons, List.map_map, List.sum_cons, Function.comp_def, Fin.val_zero,
      Fin.val_succ, Nat.ofBits_succ, shifted, lowest]
    omega

theorem State.changeFlags_lt (s : State) : s.changeFlags.toNat < 4096 := by
  have few := Nat.ofBits_lt_two_pow fun i : Input => (s.input i).changed
  rw [State.changeFlags, sum_bits, BitVec.toNat_ofNat]
  omega

theorem State.changeFlags_bit (s : State) (i : Input) : s.changeFlags.getLsbD i.val = (s.input i).changed := by
  rw [State.changeFlags, sum_bits fun i : Input => (s.input i).changed, BitVec.getLsbD_ofNat,
    Nat.testBit_ofBits_lt _ _ i.isLt]
  simp [show i.val < 16 by omega]

/-- The four flags of a STATUS body are the bits of their byte. -/
theorem fourFlags (a b c d : Bool) :
    let flags := byteOf (bit a 0 + bit b 1 + bit c 2 + bit d 3)
    flags.getLsbD 0 = a ∧ flags.getLsbD 1 = b ∧ flags.getLsbD 2 = c ∧ flags.getLsbD 3 = d ∧ flags.toNat < 16 := by
  revert a b c d
  decide

/-! ### Alarms -/

theorem Reports.mostUrgent_of_none {r : Reports} (none_ : r.open_ = []) : r.mostUrgent = 16 := by
  simp [Reports.mostUrgent, none_]

theorem Reports.mostUrgent_of_least {r : Reports} {e : Alarm} (open_ : e ∈ r.open_) (urgent : e.priority ≤ 15)
    (least : ∀ x ∈ r.open_, e.priority ≤ x.priority) : r.mostUrgent = e.priority := by
  have min : (r.open_.map (·.priority)).min? = some e.priority :=
    List.min?_eq_some_iff.mpr ⟨List.mem_map_of_mem open_, by simpa using least⟩
  rw [Reports.mostUrgent, List.foldl_min, min]
  simp only [Option.getD_some]
  omega

theorem State.presentedInfo_of_some {s : State} {e : Alarm} (presented : s.rc.presented = some e) :
    s.presentedInfo = some
      { tag := e.tag.getD 0, kind := e.kind.code, objectClass := e.object.classCode,
        objectIndex := e.object.indexCode, priority := BitVec.ofNat 8 e.priority } := by
  simp only [State.presentedInfo, presented]
  rfl

theorem State.presentedInfo_of_none {s : State} (none_ : s.rc.presented = none) : s.presentedInfo = none := by
  simp only [State.presentedInfo, none_]

/-! ### Feeders -/

theorem State.feederList_of_fault {s : State} (fault : s.inConfigFault = true) :
    s.feederList = (List.finRange 4).map fun f =>
      { feeder := BitVec.ofNat 8 (f.val + 1), sectionId := 0, state := (s.feeder f).state.code, live := 0 } := by
  simp only [State.feederList, fault, if_true]
  exact congrFun List.filterMap_eq_map' _

theorem State.feederList_of_noFault {s : State} (fault : s.inConfigFault = false) :
    s.feederList = (List.finRange 4).filterMap fun f =>
      if s.feederEnabled f then
        some
          { feeder := BitVec.ofNat 8 (f.val + 1), sectionId := (s.feederSet f).sectionId,
            state := (s.feeder f).state.code,
            live := if s.laneFresh (lineLane f) = true ∧ (s.feederSet f).vlive < s.vl f then 1 else 0 }
      else none := by
  have live (f : Feeder) : byteOf (bit (s.liveFlag f) 0) =
      if s.laneFresh (lineLane f) = true ∧ (s.feederSet f).vlive < s.vl f then 1 else 0 := by
    by_cases is : s.laneFresh (lineLane f) = true ∧ (s.feederSet f).vlive < s.vl f
    · rw [if_pos is, show s.liveFlag f = true by simpa [State.liveFlag] using is]
      rfl
    · rw [if_neg is, show s.liveFlag f = false by simpa [State.liveFlag] using is]
      rfl
  simp only [State.feederList, fault, Bool.false_eq_true, if_false, live]
  rfl

/-! ### The codes of section 7.8 -/

theorem alarmKind_codes :
    [AlarmKind.breakerFailure, .groupFault, .lockout, .feederTrip, .intertripUnconfirmed, .timebaseFault, .laneStale,
      .closeFail, .uncommandedClose, .lineTestFail, .wouldTrip, .closeRefused, .peerLost, .mapMismatch, .timebaseState,
      .pilotCongestion, .portError, .portQuiet, .inputChange, .configClamped, .commandRejected, .standby].map
      AlarmKind.code = (List.range 22).map fun n => BitVec.ofNat 8 (n + 1) := by
  decide

theorem State.inConfigFault_eq (s : State) : s.inConfigFault = decide (s.cl.mode = .configFault) := by
  rw [State.inConfigFault]
  cases s.cl.mode <;> rfl

/-- Settles O33: the body by its fields, and the codes by their tables. -/
theorem statusShowsRecords : Obligations.StatusShowsRecords := by
  refine ⟨fun reply s => ?_, rfl, rfl, rfl, rfl, alarmKind_codes, rfl, rfl, fun _ => ⟨rfl, rfl⟩,
    fun _ => ⟨rfl, rfl⟩, fun _ => ⟨rfl, rfl⟩, fun _ => ⟨rfl, rfl⟩, fun _ => ⟨rfl, rfl⟩, fun _ => ⟨rfl, rfl⟩⟩
  intro b fault waiting
  have inFault : s.inConfigFault = fault := s.inConfigFault_eq
  have flags := fourFlags (s.fc.standby && !s.inConfigFault) (s.saturated && !s.inConfigFault) s.rc.overflow
    s.inConfigFault
  rw [inFault] at flags
  obtain ⟨standby, saturated, overflow, config, few⟩ := flags
  have flagsByte : b.flags = byteOf (bit (s.fc.standby && !fault) 0 + bit (s.saturated && !fault) 1 +
    bit s.rc.overflow 2 + bit fault 3) := by rw [← inFault]; rfl
  rw [← flagsByte] at standby saturated overflow config few
  refine ⟨fun no => ?_, fun yes => ?_, standby, saturated, overflow, config, few, rfl, fun none_ => ?_,
    fun e waits urgent least => ?_, s.changeFlags_bit, s.changeFlags_lt, rfl, fun e => State.presentedInfo_of_some,
    State.presentedInfo_of_none, rfl, rfl⟩
  · have noFault := inFault.trans no
    refine ⟨?_, ?_, ?_, ?_, ?_, State.feederList_of_noFault noFault⟩ <;>
      simp only [b, State.statusBody, noFault, Bool.false_eq_true, if_false] <;> rfl
  · have faulty := inFault.trans yes
    refine ⟨?_, ?_, ?_, ?_, ?_, State.feederList_of_fault faulty⟩ <;>
      simp only [b, State.statusBody, faulty, if_true] <;> rfl
  · exact congrArg byteOf (Reports.mostUrgent_of_none none_)
  · exact congrArg byteOf (Reports.mostUrgent_of_least waits urgent least)

end Sys2Proof.Machine
end

section
/-! PROOF. An INTERTRIP that is received: it trips the feeder it is for, is noted there, or fits no map entry (R95, R155,
R156). -/

namespace Sys2Proof.Machine

/-! ### Reports after a step of a feeder -/

/-- What is said of a started trip is said of other blocks than those of the ports and the reports. -/
theorem State.TripStarted.of_onlyPpRc {s t u : State} {f : Feeder} {cause : Cause} {origin : Option Byte}
    (started : s.TripStarted t f cause origin) (blocks : t.onlyPpRc u) : s.TripStarted u f cause origin := by
  obtain ⟨feeder, copy, record, intertrip, noIntertrip, woken, ⟨others, senders⟩, frame⟩ := started
  obtain ⟨clock, pins, li, st, fc, fp, fs, sc, im, cl, pending⟩ := blocks
  have feeders (f' : Feeder) : u.feeder f' = t.feeder f' := State.feeder_of_fs fs f'
  have prots (f' : Feeder) : u.prot f' = t.prot f' := State.prot_of_fp fp f'
  have sent (f' : Feeder) : u.sender f' = t.sender f' := State.sender_of_sc sc f'
  refine ⟨(feeders f).trans feeder, by rwa [prots], by rwa [prots], by rwa [sent], by rwa [sc], by rwa [fc],
    ⟨State.otherFeedersKept_trans others (State.otherFeedersKept_of_blocks fs fp f), fun f' ne => ?_⟩, ?_⟩
  · rw [sent, senders f' ne]
  · obtain ⟨clock', pins', li', st', im', cl', pending'⟩ := frame
    exact ⟨clock.trans clock', pins.trans pins', li.trans li', st.trans st', im.trans im', cl.trans cl',
      pending.trans pending'⟩

theorem State.SameButReports.notForwarded {s t : State} {p : Port} {h : Header} (same : s.SameButReports t)
    (kept : s.notForwarded p h) : t.notForwarded p h := by
  obtain ⟨-, -, -, -, -, -, -, -, -, cl, -⟩ := same.blocks
  obtain ⟨state, -⟩ := same.kept.reception (other p)
  rw [State.notForwarded, State.settings_of_cl cl, state]
  exact kept

theorem State.notForwarded_of_blocks {s t : State} {p : Port} {h : Header} (pp : t.pp = s.pp) (cl : t.cl = s.cl)
    (kept : s.notForwarded p h) : t.notForwarded p h := by
  rw [State.notForwarded, State.settings_of_cl cl, show t.port (other p) = s.port (other p) by simp [State.port, pp]]
  exact kept

/-! ### The way of an INTERTRIP -/

/-- An INTERTRIP that is taken while the station runs is heard, handed to the Coordinator, and forwarded. -/
theorem exec_intertripReceived {p : Port} {h : Header} {b : IntertripBody} {s : State}
    (taken : s.takesFrame p { header := h, payload := .intertrip b }) (running : s.cl.mode = .running) :
    exec (.intertripReceived p h b) s =
      .next (((s.heard p h).receiveIntertrip h b).forward p { header := h, payload := .intertrip b }) := by
  have noFault : (s.heard p h).inConfigFault = false := by simp [State.inConfigFault, running]
  have handed : (s.heard p h).handOn p { header := h, payload := .intertrip b } = (s.heard p h).receiveIntertrip h b :=
    if_neg (by simp [noFault])
  simp only [exec, execIntertripReceived, State.receiveFrame_taken taken, handed]

theorem State.intertripFeeder_of_cl {s t : State} (cl : t.cl = s.cl) (h : Header) (b : IntertripBody) :
    t.intertripFeeder h b = s.intertripFeeder h b := by
  simp only [State.intertripFeeder, State.feederEnabled_of_cl cl, State.feederSet_of_cl cl]

theorem State.receiveIntertrip_for {s : State} {h : Header} {b : IntertripBody} {f : Feeder}
    (target : b.target = s.cl.station) (found : s.intertripFeeder h b = some f) :
    s.receiveIntertrip h b = s.actIntertrip f h.origin b.age.toNat := by
  rw [State.receiveIntertrip, if_pos target, found]

theorem State.receiveIntertrip_unmapped {s : State} {h : Header} {b : IntertripBody} (target : b.target = s.cl.station)
    (none_ : s.intertripFeeder h b = none) :
    s.receiveIntertrip h b = s.alarm .mapMismatch (.peer h.origin) none b.sectionId.toNat := by
  rw [State.receiveIntertrip, if_pos target, none_]

/-- An INTERTRIP fits no map entry when every feeder of its number is not enabled or its entry differs (R155). -/
theorem State.intertripFeeder_none {s : State} {h : Header} {b : IntertripBody}
    (differs : ∀ f, feederOf b.feeder = some f → s.feederEnabled f = false ∨ (s.feederSet f).sectionId ≠ b.sectionId ∨
      (s.feederSet f).farStation ≠ h.origin) : s.intertripFeeder h b = none := by
  unfold State.intertripFeeder
  split
  · next f number =>
    refine if_neg fun fits => ?_
    simp only [Bool.and_eq_true, beq_iff_eq] at fits
    obtain ⟨⟨enabled, sectionId⟩, far⟩ := fits
    obtain disabled | otherSection | otherFar := differs f number
    · simp [enabled] at disabled
    · exact otherSection sectionId
    · exact otherFar far
  · rfl

/-! ### What it does to its feeder -/

theorem State.actIntertrip_aged {s : State} {f : Feeder} {age : Nat} (old : 1000 < age) (origin : Byte) :
    s.actIntertrip f origin age = s.noteIntertrip f := if_pos old

theorem State.actIntertrip_trips {s : State} {f : Feeder} {age : Nat} (fresh : age ≤ 1000)
    (state : (s.feeder f).state = .closed ∨ (s.feeder f).state = .closing) (origin : Byte) :
    s.actIntertrip f origin age = s.tripStart f .remote (some origin) := by
  have taken : s.takeIntertrip f origin = (s.tripStart f .remote (some origin), .tripped) := by
    obtain closed | closing := state
    · rw [State.takeIntertrip, closed]
    · rw [State.takeIntertrip, closing]
  rw [State.actIntertrip, if_neg (by omega), taken]

/-- The feeder's test is over, and the cause of its trip is the far station's. -/
def State.testOverruled (s : State) (f : Feeder) (origin : Byte) : State :=
  ((s.endTest f).modFeeder f fun r => { r with tripCause := some .remote }).writeRecord f .remote false (some origin)

theorem State.actIntertrip_testing {s : State} {f : Feeder} {age : Nat} (fresh : age ≤ 1000)
    (testing : (s.feeder f).state = .testing) (origin : Byte) :
    s.actIntertrip f origin age = (s.testOverruled f origin).enterTripped f .follower := by
  have taken : s.takeIntertrip f origin = ((s.testOverruled f origin).enterTripped f .follower, .tripped) := by
    rw [State.takeIntertrip, testing]
    rfl
  rw [State.actIntertrip, if_neg (by omega), taken]

theorem State.testOverruled_feeder (s : State) (f : Feeder) (origin : Byte) :
    (s.testOverruled f origin).feeder f =
      { s.feeder f with contactor := false, op := .none, test := none, tripCause := some .remote } := by
  have recorded : (s.testOverruled f origin).feeder f =
      ((s.endTest f).modFeeder f fun r => { r with tripCause := some .remote }).feeder f := rfl
  rw [recorded, State.modFeeder_feeder_self, State.endTest_feeder]

theorem State.testOverruled_others (s : State) (f : Feeder) (origin : Byte) :
    s.otherFeedersKept (s.testOverruled f origin) f :=
  State.otherFeedersKept_trans (s.endTest_others f) <|
    State.otherFeedersKept_trans (State.otherFeedersKept_modFeeder _ f _) (State.writeRecord_others _ f _ _ _)

theorem State.actIntertrip_noted {s : State} {f : Feeder} {age : Nat} {origin : Byte}
    (passes : 1000 < age ∨ (s.feeder f).state ∈ [.opened, .tripping, .tripped, .lockout, .failed]) :
    s.actIntertrip f origin age = s.noteIntertrip f := by
  by_cases old : 1000 < age
  · exact State.actIntertrip_aged old origin
  have state := passes.resolve_left old
  have taken : s.takeIntertrip f origin = (s, .noted) := by
    simp only [List.mem_cons, List.not_mem_nil, or_false] at state
    obtain is | is | is | is | is := state <;> rw [State.takeIntertrip, is]
  rw [State.actIntertrip, if_neg old, taken]

theorem State.noteIntertrip_prot (s : State) (f : Feeder) :
    ((s.noteIntertrip f).prot f).record =
      (s.prot f).record.map fun r => { r with repeats := min 255 (r.repeats + 1) } := by
  rw [State.noteIntertrip, State.modProt_prot_self]
  cases record : (s.prot f).record <;> simp [record, countUpTo]

theorem State.actIntertrip_others (s : State) (f : Feeder) (origin : Byte) (age : Nat) :
    s.otherFeedersKept (s.actIntertrip f origin age) f := by
  by_cases noted : 1000 < age ∨ (s.feeder f).state ∈ [.opened, .tripping, .tripped, .lockout, .failed]
  · rw [State.actIntertrip_noted noted]
    exact s.otherFeedersKept_modProt f _
  obtain ⟨fresh, acts⟩ := not_or.mp noted
  by_cases testing : (s.feeder f).state = .testing
  · rw [State.actIntertrip_testing (by omega) testing]
    exact State.otherFeedersKept_trans (s.testOverruled_others f origin) (State.enterTripped_others _ f _)
  · have acting : (s.feeder f).state = .closed ∨ (s.feeder f).state = .closing := by
      generalize (s.feeder f).state = state at acts testing
      revert acts testing
      cases state <;> decide
    rw [State.actIntertrip_trips (by omega) acting]
    exact s.tripStart_others f _ _

/-! ### The statement -/

/-- One for a feeder of this station, from its far station. -/
theorem exec_intertripReceived_valid (p : Port) (h : Header) (b : IntertripBody) (f : Feeder) (s : State)
    (taken : s.takesFrame p { header := h, payload := .intertrip b }) (running : s.cl.mode = .running)
    (target : b.target = s.cl.station) (found : s.intertripFeeder h b = some f) (kept : s.notForwarded p h) :
    ∃ t, exec (.intertripReceived p h b) s = .next t ∧
      (b.age.toNat ≤ 1000 → (s.feeder f).state = .closed ∨ (s.feeder f).state = .closing →
        (s.heard p h).TripStarted t f .remote (some h.origin)) ∧
      (b.age.toNat ≤ 1000 → (s.feeder f).state = .testing → (s.feeder f).blocked = false →
        s.TrippedAs t f .follower ∧ (t.feeder f).tripCause = some .remote ∧ (t.feeder f).contactor = false ∧
          (t.feeder f).test = none) ∧
      (1000 < b.age.toNat ∨ (s.feeder f).state ∈ [.opened, .tripping, .tripped, .lockout, .failed] →
        t = { s.heard p h with fp := t.fp } ∧
          (t.prot f).record = (s.prot f).record.map fun r => { r with repeats := min 255 (r.repeats + 1) }) ∧
      s.otherFeedersKept t f := by
  let u := s.heard p h
  let v := u.actIntertrip f h.origin b.age.toNat
  let t := v.forward p { header := h, payload := .intertrip b }
  have feeder : u.feeder f = s.feeder f := State.feeder_of_fs (by simp [u]) f
  have prot : u.prot f = s.prot f := State.prot_of_fp (by simp [u]) f
  have cl : u.cl = s.cl := by simp [u]
  have acted : u.receiveIntertrip h b = v :=
    State.receiveIntertrip_for (by rw [cl]; exact target) ((State.intertripFeeder_of_cl cl h b).trans found)
  have forwarded : v.SameButReports t := v.forward_same p _
  have heard : s.otherFeedersKept u f := State.otherFeedersKept_of_blocks (by simp [u]) (by simp [u]) f
  refine ⟨t, (exec_intertripReceived taken running).trans (by rw [acted]), fun fresh acting => ?_,
    fun fresh testing unblocked => ?_, fun noted => ?_,
    State.otherFeedersKept_trans heard (State.otherFeedersKept_trans (u.actIntertrip_others f _ _)
      (forwarded.others f))⟩
  · have trips : v = u.tripStart f .remote (some h.origin) := State.actIntertrip_trips fresh (feeder ▸ acting) _
    exact State.TripStarted.of_onlyPpRc (trips ▸ u.tripStart_started f _ _) forwarded.blocks
  · let w := u.testOverruled f h.origin
    have wFeeder := u.testOverruled_feeder f h.origin
    have entered : v = w.enterTripped f .follower := State.actIntertrip_testing fresh (by rw [feeder, testing]) _
    obtain ⟨-, -, -, -, -, -, fs, -⟩ := forwarded.blocks
    have record : t.feeder f = w.inTripped f .follower (w.feeder f) := by
      rw [State.feeder_of_fs fs, entered, State.enterTripped_feeder, wFeeder, feeder]
      exact if_neg (by simp [unblocked])
    refine ⟨State.trippedAs_of_feeder (u := w) (by simp [w, State.testOverruled, cl])
      (by simp [w, State.testOverruled, u]) record, ?_⟩
    rw [record, wFeeder]
    exact ⟨rfl, rfl, rfl⟩
  · have passed : v = u.noteIntertrip f := State.actIntertrip_noted (by rw [feeder]; exact noted)
    have still : t = v := State.forward_of_notForwarded
      (State.notForwarded_of_blocks (by rw [passed]; rfl) (by rw [passed]; rfl) (s.heard_notForwarded kept))
    rw [still, passed, State.noteIntertrip_prot, prot]
    exact ⟨rfl, rfl⟩

/-- One for another station, and one that fits no map entry. -/
theorem exec_intertripReceived_unmapped (p : Port) (h : Header) (b : IntertripBody) (s : State)
    (taken : s.takesFrame p { header := h, payload := .intertrip b }) (running : s.cl.mode = .running)
    (kept : s.notForwarded p h) :
    ∃ t, exec (.intertripReceived p h b) s = .next t ∧ (b.target ≠ s.cl.station → t = s.heard p h) ∧
      (b.target = s.cl.station →
        (∀ f, feederOf b.feeder = some f → s.feederEnabled f = false ∨ (s.feederSet f).sectionId ≠ b.sectionId ∨
          (s.feederSet f).farStation ≠ h.origin) →
        (s.heard p h).SameButReports t ∧ s.alarmed t .mapMismatch (.peer h.origin) b.sectionId.toNat) := by
  let u := s.heard p h
  have cl : u.cl = s.cl := by simp [u]
  have uKept : u.notForwarded p h := s.heard_notForwarded kept
  refine ⟨_, exec_intertripReceived taken running, fun foreign => ?_, fun target differs => ?_⟩
  · have passed : u.receiveIntertrip h b = u := if_neg (by rw [cl]; exact foreign)
    rw [passed]
    exact State.forward_of_notForwarded uKept
  · have raised := State.receiveIntertrip_unmapped (s := u) (by rw [cl]; exact target)
      ((State.intertripFeeder_of_cl cl h b).trans (State.intertripFeeder_none differs))
    have same := u.alarm_same .mapMismatch (.peer h.origin) none b.sectionId.toNat
    rw [raised, State.forward_of_notForwarded (same.notForwarded uKept)]
    refine ⟨same, fun room => ?_⟩
    have rc : u.rc = s.rc := by simp [u]
    have time : u.time = s.time := by simp [State.time, u]
    have reach := u.rc.reach_le
    have held := State.alarm_alarmed (s := u) (k := .mapMismatch) nofun (by rw [rc] at reach ⊢; omega) (.peer h.origin)
      none b.sectionId.toNat
    rwa [time] at held

/-- Settles O39. -/
theorem intertripTrips : Obligations.IntertripTrips :=
  ⟨exec_intertripReceived_valid, exec_intertripReceived_unmapped⟩

end Sys2Proof.Machine
end

section
/-! PROOF. The commands to a feeder (R97 to R101, R113). -/

namespace Sys2Proof.Machine

/-! ### The way of a feeder's command -/

/-- A feeder of number 1 to 4 performs its command in the state that has heard the frame. -/
theorem exec_feederCommand {c : CommandOperands} {k : Command} {f : Feeder} {s : State}
    {act : State → Feeder → State × CommandResult} (taken : s.takesCommand c k.code) (plain : k ≠ .restart)
    (number : feederOf c.number = some f) (range : k.badNumber c.number = (feederOf c.number).isNone)
    (performs : ∀ u : State, u.perform k (commandBody c k) = u.forFeeder c.number act) :
    ∃ t, exec (k.row c) s = .next t ∧
      State.Answers c k (act (s.heard c.port c.header) f).1 (act (s.heard c.port c.header) f).2 t := by
  obtain ⟨t, run, answers⟩ := exec_command taken plain (by rw [range, number]; rfl)
  exact ⟨t, run, answers _ _ ((performs _).trans (by rw [State.forFeeder, number]))⟩

/-- Setting a result and forwarding a frame change the blocks of the ports and the reports alone. -/
theorem State.Answers.onlyPpRc {c : CommandOperands} {k : Command} {left t : State} {result : CommandResult}
    (h : State.Answers c k left result t) : left.onlyPpRc t := h.same.blocks

theorem State.Answers.feeder {c : CommandOperands} {k : Command} {left t : State} {result : CommandResult}
    (h : State.Answers c k left result t) (f : Feeder) : t.feeder f = left.feeder f := by
  obtain ⟨-, -, -, -, -, -, fs, -⟩ := h.onlyPpRc
  exact State.feeder_of_fs fs f

theorem State.heard_feeder (s : State) (p : Port) (h : Header) (f : Feeder) : (s.heard p h).feeder f = s.feeder f :=
  State.feeder_of_fs (by simp) f

theorem State.heard_feederEnabled (s : State) (p : Port) (h : Header) (f : Feeder) :
    (s.heard p h).feederEnabled f = s.feederEnabled f := State.feederEnabled_of_cl (by simp) f

/-- A command that keeps the other feeders keeps them from its frame's reception to its answer. -/
theorem State.Answers.others {c : CommandOperands} {k : Command} {s left t : State} {result : CommandResult}
    {f : Feeder} (h : State.Answers c k left result t) (kept : (s.heard c.port c.header).otherFeedersKept left f) :
    s.otherFeedersKept t f := by
  obtain ⟨-, -, -, -, -, fp, fs, -⟩ := h.onlyPpRc
  exact State.otherFeedersKept_trans (State.otherFeedersKept_of_blocks (by simp) (by simp) f)
    (State.otherFeedersKept_trans kept (State.otherFeedersKept_of_blocks fs fp f))

/-- A command that leaves the state as it heard it leaves the feeders and the groups. -/
theorem State.Answers.unchanged {c : CommandOperands} {k : Command} {s t : State} {result : CommandResult}
    (h : State.Answers c k (s.heard c.port c.header) result t) : t.fs = s.fs ∧ t.fp = s.fp ∧ t.fc = s.fc := by
  obtain ⟨-, -, -, -, fc, fp, fs, -⟩ := h.onlyPpRc
  exact ⟨fs.trans (by simp), fp.trans (by simp), fc.trans (by simp)⟩

theorem State.Opened.congr {t u : State} {f : Feeder} {n : Nat} (opened : t.Opened f n)
    (feeder : u.feeder f = t.feeder f) : u.Opened f n := by rwa [State.Opened, feeder]

theorem State.LockedOut.congr {t u : State} {f : Feeder} (locked : t.LockedOut f)
    (feeder : u.feeder f = t.feeder f) : u.LockedOut f := by rwa [State.LockedOut, feeder]

/-! ### OPEN (R97) -/

theorem State.commandOpen_acting {s : State} {f : Feeder} (enabled : s.feederEnabled f = true)
    (acting : (s.feeder f).state = .closed ∨ (s.feeder f).state = .closing) :
    s.commandOpen f = (s.tripStart f .control none, .done) := by
  obtain closed | closing := acting
  · rw [State.commandOpen, if_pos enabled, closed]
  · rw [State.commandOpen, if_pos enabled, closing]

theorem State.commandOpen_testing {s : State} {f : Feeder} (enabled : s.feederEnabled f = true)
    (testing : (s.feeder f).state = .testing) : s.commandOpen f = ((s.endTest f).enterOpen f 0, .done) := by
  rw [State.commandOpen, if_pos enabled, testing]

theorem State.commandOpen_resting {s : State} {f : Feeder} (enabled : s.feederEnabled f = true)
    (resting : (s.feeder f).state = .tripped ∨ (s.feeder f).state = .lockout) :
    s.commandOpen f = (s.enterOpen f 0, .done) := by
  obtain tripped | lockout := resting
  · rw [State.commandOpen, if_pos enabled, tripped]
  · rw [State.commandOpen, if_pos enabled, lockout]

theorem State.commandOpen_passes {s : State} {f : Feeder} (enabled : s.feederEnabled f = true)
    (passes : (s.feeder f).state = .opened ∨ (s.feeder f).state = .tripping ∨ (s.feeder f).state = .failed) :
    s.commandOpen f = (s, .done) := by
  obtain is | is | is := passes <;> rw [State.commandOpen, if_pos enabled, is]

theorem State.commandOpen_done {s : State} {f : Feeder} (enabled : s.feederEnabled f = true) :
    (s.commandOpen f).2 = .done := by
  rw [State.commandOpen, if_pos enabled]
  split <;> rfl

/-- OPEN of an enabled feeder in each of its states (R97). -/
theorem exec_openFeeder (c : CommandOperands) (f : Feeder) (s : State) (taken : s.takesCommand c 1)
    (number : feederOf c.number = some f) (enabled : s.feederEnabled f) (_ : s.notForwarded c.port c.header) :
    ∃ t, exec (.openFeeder c) s = .next t ∧ t.answered c .openFeeder .done ∧
      ((s.feeder f).state = .closed ∨ (s.feeder f).state = .closing →
        (s.heard c.port c.header).TripStarted t f .control none) ∧
      ((s.feeder f).state ∈ [.testing, .tripped, .lockout] → t.Opened f 0 ∧ s.otherFeedersKept t f) ∧
      ((s.feeder f).state = .testing → (t.feeder f).contactor = false ∧ (t.feeder f).test = none) ∧
      ((s.feeder f).state ∈ [.opened, .tripping, .failed] → t.fs = s.fs ∧ t.fp = s.fp) := by
  let u := s.heard c.port c.header
  have uEnabled : u.feederEnabled f = true := (s.heard_feederEnabled _ _ f).trans enabled
  have feeder : u.feeder f = s.feeder f := s.heard_feeder _ _ f
  obtain ⟨t, run, answer⟩ := exec_feederCommand (k := .openFeeder) (act := State.commandOpen) taken nofun number rfl
    fun _ => rfl
  have openedTest (testing : (s.feeder f).state = .testing) : t.feeder f = ((u.endTest f).feeder f).inOpen 0 := by
    rw [answer.feeder, State.commandOpen_testing uEnabled (by rw [feeder, testing]), State.enterOpen_feeder]
  refine ⟨t, run, State.commandOpen_done uEnabled ▸ answer.answered, fun acting => ?_, fun ended => ?_,
    fun testing => ?_, fun passes => ?_⟩
  · rw [State.commandOpen_acting uEnabled (feeder ▸ acting)] at answer
    exact (u.tripStart_started f .control none).of_onlyPpRc answer.onlyPpRc
  · obtain testing | resting : (s.feeder f).state = .testing ∨
        (s.feeder f).state = .tripped ∨ (s.feeder f).state = .lockout := by simpa using ended
    · rw [State.commandOpen_testing uEnabled (by rw [feeder, testing])] at answer
      exact ⟨State.opened_of_feeder (openedTest testing),
        answer.others (State.otherFeedersKept_trans (u.endTest_others f) (State.enterOpen_others _ f 0))⟩
    · rw [State.commandOpen_resting uEnabled (feeder ▸ resting)] at answer
      exact ⟨(u.enterOpen_opened f 0).congr (answer.feeder f), answer.others (u.enterOpen_others f 0)⟩
  · rw [openedTest testing, State.endTest_feeder]
    exact ⟨rfl, rfl⟩
  · rw [State.commandOpen_passes uEnabled (by rw [feeder]; simpa using passes)] at answer
    exact ⟨answer.unchanged.1, answer.unchanged.2.1⟩

/-! ### CLOSE (R100, R113) -/

theorem State.commandClose_opened {s : State} {f : Feeder} (enabled : s.feederEnabled f = true)
    (opened : (s.feeder f).state = .opened) (free : (s.feeder f).holds.interlock = false) :
    s.commandClose f = ((s.modFeeder f fun r => { r with role := some .manual }).beginTest f, .done) := by
  rw [State.commandClose, if_pos enabled, if_pos opened, if_neg (by simp [free])]

theorem State.commandClose_interlocked {s : State} {f : Feeder} (enabled : s.feederEnabled f = true)
    (opened : (s.feeder f).state = .opened) (interlock : (s.feeder f).holds.interlock = true) :
    s.commandClose f = (s, .refusedInterlock) := by
  rw [State.commandClose, if_pos enabled, if_pos opened, if_pos interlock]

theorem State.commandClose_refused {s : State} {f : Feeder} (enabled : s.feederEnabled f = true)
    (other : (s.feeder f).state ≠ .opened) : s.commandClose f = (s, .refusedState) := by
  rw [State.commandClose, if_pos enabled, if_neg other]

theorem State.commandClose_others (s : State) (f : Feeder) : s.otherFeedersKept (s.commandClose f).1 f := by
  unfold State.commandClose
  (repeat' split)
  · exact s.otherFeedersKept_refl f
  · exact State.otherFeedersKept_trans (s.otherFeedersKept_modFeeder f _) (State.beginTest_others _ f)
  · exact s.otherFeedersKept_refl f
  · exact s.otherFeedersKept_refl f

theorem State.lowerNotice_of_feeder {s t : State} {f : Feeder} (notice : (t.feeder f).notice = (s.feeder f).notice)
    (cl : t.cl = s.cl) : t.lowerNotice f = s.lowerNotice f := by
  simp only [State.lowerNotice, notice, cl]

/-- CLOSE of an enabled feeder in each of its states (R100, R113). -/
theorem exec_closeFeeder (c : CommandOperands) (f : Feeder) (s : State) (taken : s.takesCommand c 2)
    (number : feederOf c.number = some f) (enabled : s.feederEnabled f) (_ : s.notForwarded c.port c.header) :
    ∃ t, exec (.closeFeeder c) s = .next t ∧
      ((s.feeder f).state = .opened → (s.feeder f).holds.interlock = false → s.lowerNotice f = false →
        (s.feeder f).holds.lane = false →
        t.answered c .closeFeeder .done ∧
          t.feeder f =
            { s.feeder f with
              state := .testing, role := some .manual, dead := none, follow := none, live := .stopped,
              test := some { stage := .notice, timer := s.clock + 60000,
                             startSent := (s.feederSet f).farStation != 0, agreement := none } }) ∧
      ((s.feeder f).state = .opened → (s.feeder f).holds.interlock = false →
        (s.lowerNotice f = true ∨ (s.feeder f).holds.lane = true) →
        t.answered c .closeFeeder .done ∧ t.Opened f (s.feeder f).attempts) ∧
      ((s.feeder f).state = .opened → (s.feeder f).holds.interlock = true →
        t.answered c .closeFeeder .refusedInterlock ∧ t.fs = s.fs ∧ t.fp = s.fp) ∧
      ((s.feeder f).state ≠ .opened →
        t.answered c .closeFeeder .refusedState ∧ t.fs = s.fs ∧ t.fp = s.fp) ∧
      s.otherFeedersKept t f := by
  let u := s.heard c.port c.header
  have uEnabled : u.feederEnabled f = true := (s.heard_feederEnabled _ _ f).trans enabled
  have feeder : u.feeder f = s.feeder f := s.heard_feeder _ _ f
  let v := u.modFeeder f fun r => { r with role := some .manual }
  have vFeeder : v.feeder f = { s.feeder f with role := some .manual } := by
    rw [← feeder]
    exact u.modFeeder_feeder_self f _
  have lower : v.lowerNotice f = s.lowerNotice f := State.lowerNotice_of_feeder (by rw [vFeeder]) (by simp [v, u])
  obtain ⟨t, run, answer⟩ := exec_feederCommand (k := .closeFeeder) (act := State.commandClose) taken nofun number rfl
    fun _ => rfl
  refine ⟨t, run, fun opened free unnoticed lane => ?_, fun opened free refused => ?_, fun opened interlock => ?_,
    fun other => ?_, answer.others (u.commandClose_others f)⟩
  · rw [State.commandClose_opened uEnabled (by rw [feeder, opened]) (by rw [feeder, free])] at answer
    have set : v.feederSet f = s.feederSet f := State.feederSet_of_cl (by simp [v, u]) f
    have clock : v.clock = s.clock := by simp [v, u]
    refine ⟨answer.answered, (answer.feeder f).trans ?_⟩
    rw [State.beginTest_feeder (lower.trans unnoticed) (by rw [vFeeder]; exact lane), vFeeder, State.inTesting,
      State.newTest, set, clock]
  · rw [State.commandClose_opened uEnabled (by rw [feeder, opened]) (by rw [feeder, free])] at answer
    refine ⟨answer.answered, ?_⟩
    have kept : t.feeder f = (v.enterOpen f (v.feeder f).attempts).feeder f := by
      rw [answer.feeder, State.beginTest_refused (by rw [lower, vFeeder]; exact refused), State.alarm_feeder]
    rw [vFeeder] at kept
    exact (v.enterOpen_opened f _).congr kept
  · rw [State.commandClose_interlocked uEnabled (by rw [feeder, opened]) (by rw [feeder, interlock])] at answer
    exact ⟨answer.answered, answer.unchanged.1, answer.unchanged.2.1⟩
  · rw [State.commandClose_refused uEnabled (by rw [feeder]; exact other)] at answer
    exact ⟨answer.answered, answer.unchanged.1, answer.unchanged.2.1⟩

/-- Settles O46. -/
theorem openAndCloseCommands : Obligations.OpenAndCloseCommands := ⟨exec_openFeeder, exec_closeFeeder⟩

/-! ### BLOCK RECLOSE and UNBLOCK RECLOSE (R99) -/

/-- The flag reclose-blocked of a feeder is set or cleared. -/
def State.putBlocked (s : State) (f : Feeder) (blocked : Bool) : State := s.modFeeder f fun r => { r with blocked }

theorem State.putBlocked_feeder (s : State) (f : Feeder) (blocked : Bool) :
    (s.putBlocked f blocked).feeder f = { s.feeder f with blocked } := s.modFeeder_feeder_self f _

theorem State.commandBlock_enabled {s : State} {f : Feeder} (enabled : s.feederEnabled f = true) :
    s.commandBlock f = ((s.putBlocked f true).blockTripped f, .done) := if_pos enabled

theorem State.commandUnblock_enabled {s : State} {f : Feeder} (enabled : s.feederEnabled f = true) :
    s.commandUnblock f = (s.putBlocked f false, .done) := if_pos enabled

theorem exec_blockReclose {c : CommandOperands} {f : Feeder} {s : State} (number : feederOf c.number = some f)
    (taken : s.takesCommand c 3) (enabled : s.feederEnabled f = true) :
    ∃ t, exec (.blockReclose c) s = .next t ∧ t.answered c .blockReclose .done ∧ (t.feeder f).blocked = true ∧
      ((s.feeder f).state ≠ .tripped → t.feeder f = { s.feeder f with blocked := true }) ∧
      ((s.feeder f).state = .tripped → t.LockedOut f) ∧ s.otherFeedersKept t f := by
  let u := s.heard c.port c.header
  let v := u.putBlocked f true
  obtain ⟨t, run, answer⟩ := exec_feederCommand (k := .blockReclose) (act := State.commandBlock) taken nofun number rfl
    fun _ => rfl
  rw [State.commandBlock_enabled ((s.heard_feederEnabled _ _ f).trans enabled)] at answer
  have vFeeder : v.feeder f = { s.feeder f with blocked := true } := by
    rw [← s.heard_feeder c.port c.header f]
    exact u.putBlocked_feeder f true
  have feeder : t.feeder f = (v.blockTripped f).feeder f := answer.feeder f
  have stays (other : (s.feeder f).state ≠ .tripped) : t.feeder f = { s.feeder f with blocked := true } := by
    rw [feeder, State.blockTripped, if_neg (by rw [vFeeder]; exact fun h => other h.1), vFeeder]
  have locks (tripped : (s.feeder f).state = .tripped) : t.feeder f = (v.enterLockout f).feeder f := by
    rw [feeder, State.blockTripped_of_blocked (by rw [vFeeder]; exact tripped) (by rw [vFeeder])]
  refine ⟨t, run, answer.answered, ?_, stays, fun tripped => (v.enterLockout_lockedOut f).congr (locks tripped),
    answer.others (State.otherFeedersKept_trans (u.otherFeedersKept_modFeeder f _) (v.blockTripped_others f))⟩
  by_cases tripped : (s.feeder f).state = .tripped
  · rw [locks tripped, State.enterLockout_feeder, vFeeder]
    rfl
  · rw [stays tripped]

theorem exec_unblockReclose {c : CommandOperands} {f : Feeder} {s : State} (number : feederOf c.number = some f)
    (taken : s.takesCommand c 4) (enabled : s.feederEnabled f = true) :
    ∃ t, exec (.unblockReclose c) s = .next t ∧ t.answered c .unblockReclose .done ∧
      t.feeder f = { s.feeder f with blocked := false } ∧ s.otherFeedersKept t f ∧ t.fp = s.fp := by
  let u := s.heard c.port c.header
  obtain ⟨t, run, answer⟩ := exec_feederCommand (k := .unblockReclose) (act := State.commandUnblock) taken nofun number
    rfl fun _ => rfl
  rw [State.commandUnblock_enabled ((s.heard_feederEnabled _ _ f).trans enabled)] at answer
  obtain ⟨-, -, -, -, -, fp, -⟩ := answer.onlyPpRc
  refine ⟨t, run, answer.answered, ?_, answer.others (u.otherFeedersKept_modFeeder f _),
    fp.trans (show u.fp = s.fp by simp [u])⟩
  rw [answer.feeder, State.putBlocked_feeder, s.heard_feeder]

/-! ### A feeder that is not enabled (R80) -/

/-- A command of a feeder that is not enabled is refused, and changes nothing. -/
theorem exec_disabledFeeder {c : CommandOperands} {f : Feeder} {s : State} (number : feederOf c.number = some f)
    {k : Command} (feederCommand : k ∈ [.openFeeder, .closeFeeder, .blockReclose, .unblockReclose, .resetFeeder])
    (taken : s.takesCommand c k.code) (disabled : s.feederEnabled f = false) :
    ∃ t, exec (k.row c) s = .next t ∧ t.answered c k .refusedState ∧ t.fs = s.fs ∧ t.fp = s.fp := by
  have uDisabled : ¬(s.heard c.port c.header).feederEnabled f = true := by simp [s.heard_feederEnabled, disabled]
  have refuses {act : State → Feeder → State × CommandResult} (plain : k ≠ .restart)
      (range : k.badNumber c.number = (feederOf c.number).isNone)
      (performs : ∀ u : State, u.perform k (commandBody c k) = u.forFeeder c.number act)
      (refused : act (s.heard c.port c.header) f = (s.heard c.port c.header, .refusedState)) :
      ∃ t, exec (k.row c) s = .next t ∧ t.answered c k .refusedState ∧ t.fs = s.fs ∧ t.fp = s.fp := by
    obtain ⟨t, run, answer⟩ := exec_feederCommand taken plain number range performs
    rw [refused] at answer
    exact ⟨t, run, answer.answered, answer.unchanged.1, answer.unchanged.2.1⟩
  simp only [List.mem_cons, List.not_mem_nil, or_false] at feederCommand
  obtain rfl | rfl | rfl | rfl | rfl := feederCommand
  · exact refuses (act := State.commandOpen) nofun rfl (fun _ => rfl) (if_neg uDisabled)
  · exact refuses (act := State.commandClose) nofun rfl (fun _ => rfl) (if_neg uDisabled)
  · exact refuses (act := State.commandBlock) nofun rfl (fun _ => rfl) (if_neg uDisabled)
  · exact refuses (act := State.commandUnblock) nofun rfl (fun _ => rfl) (if_neg uDisabled)
  · exact refuses (act := State.commandReset) nofun rfl (fun _ => rfl) (if_neg uDisabled)

/-! ### RESET FEEDER (R101) -/

theorem State.commandReset_lockout {s : State} {f : Feeder} (enabled : s.feederEnabled f = true)
    (lockout : (s.feeder f).state = .lockout) : s.commandReset f = (s.enterOpen f 0, .done) := by
  rw [State.commandReset, if_pos enabled, lockout]

theorem State.commandReset_failed {s : State} {f : Feeder} (enabled : s.feederEnabled f = true)
    (failed : (s.feeder f).state = .failed) (complete : s.tripComplete f = true) :
    s.commandReset f = (s.clearFailed f, .done) := by
  rw [State.commandReset, if_pos enabled, failed]
  exact if_pos complete

/-- RESET FEEDER is refused in a failed feeder whose breaker has not opened or whose current flows, and in any other
state but LOCKOUT. -/
theorem State.commandReset_refused {s : State} {f : Feeder} (enabled : s.feederEnabled f = true)
    (lockout : (s.feeder f).state ≠ .lockout) (failed : (s.feeder f).state = .failed → s.tripComplete f = false) :
    s.commandReset f = (s, .refusedState) := by
  rw [State.commandReset, if_pos enabled]
  split
  · exact absurd ‹_› lockout
  · exact if_neg (by simp [failed ‹_›])
  · rfl

theorem State.anyFailed_iff (s : State) : s.anyFailed = true ↔ ∃ f, (s.feeder f).state = .failed := by
  simp only [State.anyFailed, Bool.or_eq_true, beq_iff_eq]
  refine ⟨?_, fun ⟨f, failed⟩ => ?_⟩
  · rintro (((h | h) | h) | h) <;> exact ⟨_, h⟩
  · match f with
    | 0 => exact .inl (.inl (.inl failed))
    | 1 => exact .inl (.inl (.inr failed))
    | 2 => exact .inl (.inr failed)
    | 3 => exact .inr failed

/-- A cleared breaker leaves a feeder FAILED where another one is. -/
theorem State.breakerCleared_anyFailed (s : State) (f : Feeder) :
    (s.breakerCleared f).anyFailed = true ↔ ∃ f', f' ≠ f ∧ (s.feeder f').state = .failed := by
  rw [State.anyFailed_iff]
  refine ⟨fun ⟨f', failed⟩ => ⟨f', ?_⟩, fun ⟨f', ne, failed⟩ => ⟨f', by rwa [(s.breakerCleared_others f f' ne).1]⟩⟩
  by_cases same : f' = f
  · subst same
    rw [State.breakerCleared_feeder] at failed
    exact absurd failed nofun
  · exact ⟨same, by rwa [(s.breakerCleared_others f f' same).1] at failed⟩

theorem State.breakerCleared_fc (s : State) (f : Feeder) : (s.breakerCleared f).fc = s.fc := by
  simp [State.breakerCleared]

theorem State.clearFailed_feeder (s : State) (f f' : Feeder) :
    (s.clearFailed f).feeder f' = (s.breakerCleared f).feeder f' := by
  rw [State.clearFailed_eq, State.status_feeder]
  split
  · rfl
  · exact State.feeder_of_fs (by simp) f'

theorem State.clearFailed_others (s : State) (f : Feeder) : s.otherFeedersKept (s.clearFailed f) f := by
  refine fun f' ne => ⟨(s.clearFailed_feeder f f').trans (s.breakerCleared_others f f' ne).1, ?_⟩
  rw [State.clearFailed_eq, State.status_prot, ← (s.breakerCleared_others f f' ne).2]
  split
  · rfl
  · exact State.prot_of_fp (by simp) f'

/-- The groups lose BREAKER FAILURE where no other feeder is FAILED. -/
theorem State.clearFailed_causes {s : State} {f : Feeder} (alone : ∀ f', f' ≠ f → (s.feeder f').state ≠ .failed)
    {g : Group} (on : (s.group g).state ≠ .off) : ((s.clearFailed f).group g).causes.breakerFailure = false := by
  have none_ : ¬(s.breakerCleared f).anyFailed = true := by
    rw [State.breakerCleared_anyFailed]
    exact fun ⟨f', ne, failed⟩ => alone f' ne failed
  have fc : (s.clearFailed f).fc = ((s.breakerCleared f).putCauses .breakerFailure false).fc := by
    rw [State.clearFailed_eq, if_neg none_]
    simp
  have on' : ((s.breakerCleared f).group g).state ≠ .off := by rwa [State.group_of_fc (s.breakerCleared_fc f)]
  rw [State.group_of_fc fc, State.putCauses_causes, if_neg on']
  rfl

theorem State.clearFailed_fc {s : State} {f : Feeder} (other : ∃ f', f' ≠ f ∧ (s.feeder f').state = .failed) :
    (s.clearFailed f).fc = s.fc := by
  rw [State.clearFailed_eq, if_pos ((s.breakerCleared_anyFailed f).mpr other), ← s.breakerCleared_fc f]
  simp

theorem State.commandReset_others (s : State) (f : Feeder) : s.otherFeedersKept (s.commandReset f).1 f := by
  unfold State.commandReset
  (repeat' split)
  · exact s.enterOpen_others f 0
  · exact s.clearFailed_others f
  · exact s.otherFeedersKept_refl f
  · exact s.otherFeedersKept_refl f
  · exact s.otherFeedersKept_refl f

theorem State.tripComplete_of_blocks {s t : State} (fs : t.fs = s.fs) (li : t.li = s.li) (cl : t.cl = s.cl)
    (f : Feeder) : t.tripComplete f = s.tripComplete f := by
  rw [State.tripComplete, State.tripComplete, State.feeder_of_fs fs,
    State.currentOut_of_settings li (congrArg Loader.settings cl)]

/-- RESET FEEDER of an enabled feeder in each of its states (R101). -/
theorem exec_resetFeeder (c : CommandOperands) (f : Feeder) (s : State) (taken : s.takesCommand c 5)
    (number : feederOf c.number = some f) (enabled : s.feederEnabled f) (_ : s.notForwarded c.port c.header) :
    ∃ t, exec (.resetFeeder c) s = .next t ∧
      ((s.feeder f).state = .lockout → t.answered c .resetFeeder .done ∧ t.Opened f 0) ∧
      ((s.feeder f).state = .failed → s.tripComplete f = true →
        t.answered c .resetFeeder .done ∧ (t.feeder f).state = .opened ∧ (t.feeder f).tripCoil = false ∧
          (t.feeder f).op = .none ∧ (t.feeder f).attempts = 0 ∧ (t.feeder f).tripCause = none ∧
          ((∀ f', f' ≠ f → (s.feeder f').state ≠ .failed) →
            ∀ g, (s.group g).state ≠ .off → (t.group g).causes.breakerFailure = false) ∧
          ((∃ f', f' ≠ f ∧ (s.feeder f').state = .failed) → t.fc = s.fc)) ∧
      ((s.feeder f).state = .failed → s.tripComplete f = false →
        t.answered c .resetFeeder .refusedState ∧ t.fs = s.fs ∧ t.fc = s.fc) ∧
      ((s.feeder f).state ≠ .lockout → (s.feeder f).state ≠ .failed →
        t.answered c .resetFeeder .refusedState ∧ t.fs = s.fs ∧ t.fc = s.fc) ∧
      s.otherFeedersKept t f := by
  let u := s.heard c.port c.header
  have uEnabled : u.feederEnabled f = true := (s.heard_feederEnabled _ _ f).trans enabled
  have feeder (f' : Feeder) : u.feeder f' = s.feeder f' := s.heard_feeder _ _ f'
  have fc : u.fc = s.fc := by simp [u]
  have complete : u.tripComplete f = s.tripComplete f :=
    State.tripComplete_of_blocks (by simp [u]) (by simp [u]) (by simp [u]) f
  obtain ⟨t, run, answer⟩ := exec_feederCommand (k := .resetFeeder) (act := State.commandReset) taken nofun number rfl
    fun _ => rfl
  have refused (lockout : (s.feeder f).state ≠ .lockout)
      (failed : (s.feeder f).state = .failed → s.tripComplete f = false) :
      t.answered c .resetFeeder .refusedState ∧ t.fs = s.fs ∧ t.fc = s.fc := by
    rw [State.commandReset_refused uEnabled (by rwa [feeder]) (by rwa [feeder, complete])] at answer
    obtain ⟨fs, -, fc⟩ := answer.unchanged
    exact ⟨answer.answered, fs, fc⟩
  refine ⟨t, run, fun lockout => ?_, fun failed done => ?_, fun failed unfinished => ?_,
    fun lockout failed => refused lockout fun h => absurd h failed, answer.others (u.commandReset_others f)⟩
  · rw [State.commandReset_lockout uEnabled (by rw [feeder, lockout])] at answer
    exact ⟨answer.answered, (u.enterOpen_opened f 0).congr (answer.feeder f)⟩
  · rw [State.commandReset_failed uEnabled (by rw [feeder, failed]) (complete.trans done)] at answer
    obtain ⟨-, -, -, -, tfc, -⟩ := answer.onlyPpRc
    have record := (answer.feeder f).trans ((u.clearFailed_feeder f f).trans (u.breakerCleared_feeder f))
    rw [record]
    refine ⟨answer.answered, rfl, rfl, rfl, rfl, rfl, fun alone g on => ?_, fun other => ?_⟩
    · rw [State.group_of_fc tfc]
      exact State.clearFailed_causes (by simpa only [feeder] using alone) (by rwa [State.group_of_fc fc])
    · exact tfc.trans ((State.clearFailed_fc (by simpa only [feeder] using other)).trans fc)
  · exact refused (by rw [failed]; nofun) fun _ => unfinished

/-- Settles O47. -/
theorem feederFlagCommands : Obligations.FeederFlagCommands :=
  ⟨fun _ _ _ number _ => ⟨exec_blockReclose number, exec_unblockReclose number,
    fun _ member => exec_disabledFeeder number member⟩, exec_resetFeeder⟩

end Sys2Proof.Machine
end
